-- ==== Sys2Proof/Word.lean ====
section
/-! DEFINITION. The word types of the block (00_scope.md R7, 20_memory.md R60) and two fixed sets of names: segments (R35), access kinds (R107). -/

namespace Sys2Proof

/-- A 32-bit register, linear address or physical address. -/
abbrev Word := BitVec 32

/-- The smallest addressable unit, 8 bits (R60). -/
abbrev Byte := BitVec 8

/-- A three-bit register number or ModR/M field (R30, R91). -/
abbrev RegIdx := BitVec 3

/-- Number of bytes of one page (R65). -/
abbrev pageSize : Nat := 4096

/-- Number of bytes of the instruction fetch window, WINDOW_LEN (R6). -/
abbrev windowLen : Nat := 16

/-- The six segment registers (R35). -/
inductive Seg where
  | es
  | cs
  | ss
  | ds
  | fs
  | gs
  deriving DecidableEq, Repr

/-- The access kind carried into a PageFault's payload (R107). -/
inductive AccessKind where
  | read
  | write
  | instructionFetch
  deriving DecidableEq, Repr

end Sys2Proof
end

