-- ==== Sys2Proof/Config.lean ====
section
/-! DEFINITION. What an implementation fixes (00_scope.md R6) and the free values of the model.
The parameters are plain data, carried by State in its field `cfg` and changed by no step (log 1), so every statement
about a state is a statement about every choice of the parameters. -/

namespace Sys2Proof

/-- ESP_BASE_DEFAULT_SEG: the default segment of a SIB form whose base is ESP, SS or DS (R6, R191). -/
inductive EspBaseSeg where
  | ss
  | ds
  deriving DecidableEq, Repr

/-- The implementation parameters of R6. TCACHE_CAPACITY (every page number, no eviction) and WINDOW_LEN are fixed. -/
structure Config where
  /-- PHYS_SIZE: bytes of the flat backing store. -/
  physSize : Nat
  /-- VRAM_BASE: first physical address of the VRAM window. -/
  vramBase : Nat
  /-- VRAM_SIZE: bytes of the VRAM window; 0 means no window. -/
  vramSize : Nat
  /-- RESET_A20_ENABLED. -/
  resetA20Enabled : Bool
  /-- ESP_BASE_DEFAULT_SEG. -/
  espBaseDefaultSeg : EspBaseSeg
  deriving DecidableEq, Repr

/-- The constraints R6 and R43 put on the parameters: PHYS_SIZE in 1..2^32, the window bounds multiples of 4096,
VRAM_BASE a 32-bit and VRAM_SIZE a 33-bit number. -/
abbrev Config.wf (c : Config) : Prop :=
  1 ≤ c.physSize ∧ c.physSize ≤ 2 ^ 32 ∧ c.vramBase % pageSize = 0 ∧ c.vramSize % pageSize = 0 ∧
    c.vramBase < 2 ^ 32 ∧ c.vramSize < 2 ^ 33

/-- The defaults of R6; PHYS_SIZE has none there, 4 MB is this model's (DESIGN CHOICE, log 2, unsafe only for claims
about `State.reset` itself). -/
def Config.default : Config :=
  { physSize := 0x00400000, vramBase := 0x000A0000, vramSize := 0x00020000, resetA20Enabled := false,
    espBaseDefaultSeg := .ss }

/-- FREE VALUE (log 7, 8): byte `index` of the `draw`-th value the spec leaves open. Nothing constrains it: the bytes the
video-memory handler answers (R70, U4) and the window's bytes after the Reset operation (R45, U5). Safe. -/
opaque Config.freeByte (draw index : Nat) : Byte

end Sys2Proof
end

