-- ==== Sys2Proof/Syntax.lean ====
section
/-! DEFINITION. The instructions of the block: ONE constructor per row of spec/opcode_table.json (30_encoding.md R108).
Addressing forms carry the ModR/M `reg` field (returned to the caller, R92), the SIB `scale` and the displacement as they
stand in the encoding. Port operations carry nothing: the table gives them a code only, and their arguments stand on the
block's argument ports, `PortArguments` in State (R106, log 13). -/

namespace Sys2Proof

/-- One instruction of the block. Names follow the table: `a16M1Rm6` is A16.m1.rm6, `a32SibM1B5I1` is A32.SIB.m1.b5.i1. -/
inductive Instr where
  -- 16-bit address mode (40_resolver16.md)
  | a16M0Rm0 (reg : RegIdx)  -- [BX+SI] R121
  | a16M0Rm1 (reg : RegIdx)  -- [BX+DI] R122
  | a16M0Rm2 (reg : RegIdx)  -- [BP+SI] R123
  | a16M0Rm3 (reg : RegIdx)  -- [BP+DI] R124
  | a16M0Rm4 (reg : RegIdx)  -- [SI] R125
  | a16M0Rm5 (reg : RegIdx)  -- [DI] R126
  | a16M0Rm6 (reg : RegIdx) (disp : BitVec 16)  -- [d16] R127
  | a16M0Rm7 (reg : RegIdx)  -- [BX] R128
  | a16M1Rm0 (reg : RegIdx) (disp : BitVec 8)  -- [BX+SI+d8] R129
  | a16M1Rm1 (reg : RegIdx) (disp : BitVec 8)  -- [BX+DI+d8] R130
  | a16M1Rm2 (reg : RegIdx) (disp : BitVec 8)  -- [BP+SI+d8] R131
  | a16M1Rm3 (reg : RegIdx) (disp : BitVec 8)  -- [BP+DI+d8] R132
  | a16M1Rm4 (reg : RegIdx) (disp : BitVec 8)  -- [SI+d8] R133
  | a16M1Rm5 (reg : RegIdx) (disp : BitVec 8)  -- [DI+d8] R134
  | a16M1Rm6 (reg : RegIdx) (disp : BitVec 8)  -- [BP+d8] R135
  | a16M1Rm7 (reg : RegIdx) (disp : BitVec 8)  -- [BX+d8] R136
  | a16M2Rm0 (reg : RegIdx) (disp : BitVec 16)  -- [BX+SI+d16] R137
  | a16M2Rm1 (reg : RegIdx) (disp : BitVec 16)  -- [BX+DI+d16] R138
  | a16M2Rm2 (reg : RegIdx) (disp : BitVec 16)  -- [BP+SI+d16] R139
  | a16M2Rm3 (reg : RegIdx) (disp : BitVec 16)  -- [BP+DI+d16] R140
  | a16M2Rm4 (reg : RegIdx) (disp : BitVec 16)  -- [SI+d16] R141
  | a16M2Rm5 (reg : RegIdx) (disp : BitVec 16)  -- [DI+d16] R142
  | a16M2Rm6 (reg : RegIdx) (disp : BitVec 16)  -- [BP+d16] R143
  | a16M2Rm7 (reg : RegIdx) (disp : BitVec 16)  -- [BX+d16] R144
  | a16Reg (reg rm : RegIdx)  -- <register rm> R145
  -- 32-bit address mode without SIB, the register form and the SIB escapes (41_resolver32.md)
  | a32M0Rm0 (reg : RegIdx)  -- [EAX] R151
  | a32M0Rm1 (reg : RegIdx)  -- [ECX] R152
  | a32M0Rm2 (reg : RegIdx)  -- [EDX] R153
  | a32M0Rm3 (reg : RegIdx)  -- [EBX] R154
  | a32M0Rm5 (reg : RegIdx) (disp : BitVec 32)  -- [d32] R155
  | a32M0Rm6 (reg : RegIdx)  -- [ESI] R156
  | a32M0Rm7 (reg : RegIdx)  -- [EDI] R157
  | a32M1Rm0 (reg : RegIdx) (disp : BitVec 8)  -- [EAX+d8] R158
  | a32M1Rm1 (reg : RegIdx) (disp : BitVec 8)  -- [ECX+d8] R159
  | a32M1Rm2 (reg : RegIdx) (disp : BitVec 8)  -- [EDX+d8] R160
  | a32M1Rm3 (reg : RegIdx) (disp : BitVec 8)  -- [EBX+d8] R161
  | a32M1Rm5 (reg : RegIdx) (disp : BitVec 8)  -- [EBP+d8] R162
  | a32M1Rm6 (reg : RegIdx) (disp : BitVec 8)  -- [ESI+d8] R163
  | a32M1Rm7 (reg : RegIdx) (disp : BitVec 8)  -- [EDI+d8] R164
  | a32M2Rm0 (reg : RegIdx) (disp : BitVec 32)  -- [EAX+d32] R165
  | a32M2Rm1 (reg : RegIdx) (disp : BitVec 32)  -- [ECX+d32] R166
  | a32M2Rm2 (reg : RegIdx) (disp : BitVec 32)  -- [EDX+d32] R167
  | a32M2Rm3 (reg : RegIdx) (disp : BitVec 32)  -- [EBX+d32] R168
  | a32M2Rm5 (reg : RegIdx) (disp : BitVec 32)  -- [EBP+d32] R169
  | a32M2Rm6 (reg : RegIdx) (disp : BitVec 32)  -- [ESI+d32] R170
  | a32M2Rm7 (reg : RegIdx) (disp : BitVec 32)  -- [EDI+d32] R171
  | a32Reg (reg rm : RegIdx)  -- <register rm> R172
  | a32SibM0 (reg : RegIdx)  -- SIB escape R173
  | a32SibM1 (reg : RegIdx)  -- SIB escape R173
  | a32SibM2 (reg : RegIdx)  -- SIB escape R173
  -- 32-bit address mode with SIB (42_resolver32_sib.md R183 to R190)
  | a32SibM0B0I0 (reg : RegIdx) (scale : BitVec 2)
  | a32SibM0B0I1 (reg : RegIdx) (scale : BitVec 2)
  | a32SibM0B0I2 (reg : RegIdx) (scale : BitVec 2)
  | a32SibM0B0I3 (reg : RegIdx) (scale : BitVec 2)
  | a32SibM0B0I4 (reg : RegIdx) (scale : BitVec 2)
  | a32SibM0B0I5 (reg : RegIdx) (scale : BitVec 2)
  | a32SibM0B0I6 (reg : RegIdx) (scale : BitVec 2)
  | a32SibM0B0I7 (reg : RegIdx) (scale : BitVec 2)
  | a32SibM0B1I0 (reg : RegIdx) (scale : BitVec 2)
  | a32SibM0B1I1 (reg : RegIdx) (scale : BitVec 2)
  | a32SibM0B1I2 (reg : RegIdx) (scale : BitVec 2)
  | a32SibM0B1I3 (reg : RegIdx) (scale : BitVec 2)
  | a32SibM0B1I4 (reg : RegIdx) (scale : BitVec 2)
  | a32SibM0B1I5 (reg : RegIdx) (scale : BitVec 2)
  | a32SibM0B1I6 (reg : RegIdx) (scale : BitVec 2)
  | a32SibM0B1I7 (reg : RegIdx) (scale : BitVec 2)
  | a32SibM0B2I0 (reg : RegIdx) (scale : BitVec 2)
  | a32SibM0B2I1 (reg : RegIdx) (scale : BitVec 2)
  | a32SibM0B2I2 (reg : RegIdx) (scale : BitVec 2)
  | a32SibM0B2I3 (reg : RegIdx) (scale : BitVec 2)
  | a32SibM0B2I4 (reg : RegIdx) (scale : BitVec 2)
  | a32SibM0B2I5 (reg : RegIdx) (scale : BitVec 2)
  | a32SibM0B2I6 (reg : RegIdx) (scale : BitVec 2)
  | a32SibM0B2I7 (reg : RegIdx) (scale : BitVec 2)
  | a32SibM0B3I0 (reg : RegIdx) (scale : BitVec 2)
  | a32SibM0B3I1 (reg : RegIdx) (scale : BitVec 2)
  | a32SibM0B3I2 (reg : RegIdx) (scale : BitVec 2)
  | a32SibM0B3I3 (reg : RegIdx) (scale : BitVec 2)
  | a32SibM0B3I4 (reg : RegIdx) (scale : BitVec 2)
  | a32SibM0B3I5 (reg : RegIdx) (scale : BitVec 2)
  | a32SibM0B3I6 (reg : RegIdx) (scale : BitVec 2)
  | a32SibM0B3I7 (reg : RegIdx) (scale : BitVec 2)
  | a32SibM0B4I0 (reg : RegIdx) (scale : BitVec 2)
  | a32SibM0B4I1 (reg : RegIdx) (scale : BitVec 2)
  | a32SibM0B4I2 (reg : RegIdx) (scale : BitVec 2)
  | a32SibM0B4I3 (reg : RegIdx) (scale : BitVec 2)
  | a32SibM0B4I4 (reg : RegIdx) (scale : BitVec 2)
  | a32SibM0B4I5 (reg : RegIdx) (scale : BitVec 2)
  | a32SibM0B4I6 (reg : RegIdx) (scale : BitVec 2)
  | a32SibM0B4I7 (reg : RegIdx) (scale : BitVec 2)
  | a32SibM0B5I0 (reg : RegIdx) (scale : BitVec 2) (disp : BitVec 32)
  | a32SibM0B5I1 (reg : RegIdx) (scale : BitVec 2) (disp : BitVec 32)
  | a32SibM0B5I2 (reg : RegIdx) (scale : BitVec 2) (disp : BitVec 32)
  | a32SibM0B5I3 (reg : RegIdx) (scale : BitVec 2) (disp : BitVec 32)
  | a32SibM0B5I4 (reg : RegIdx) (scale : BitVec 2) (disp : BitVec 32)
  | a32SibM0B5I5 (reg : RegIdx) (scale : BitVec 2) (disp : BitVec 32)
  | a32SibM0B5I6 (reg : RegIdx) (scale : BitVec 2) (disp : BitVec 32)
  | a32SibM0B5I7 (reg : RegIdx) (scale : BitVec 2) (disp : BitVec 32)
  | a32SibM0B6I0 (reg : RegIdx) (scale : BitVec 2)
  | a32SibM0B6I1 (reg : RegIdx) (scale : BitVec 2)
  | a32SibM0B6I2 (reg : RegIdx) (scale : BitVec 2)
  | a32SibM0B6I3 (reg : RegIdx) (scale : BitVec 2)
  | a32SibM0B6I4 (reg : RegIdx) (scale : BitVec 2)
  | a32SibM0B6I5 (reg : RegIdx) (scale : BitVec 2)
  | a32SibM0B6I6 (reg : RegIdx) (scale : BitVec 2)
  | a32SibM0B6I7 (reg : RegIdx) (scale : BitVec 2)
  | a32SibM0B7I0 (reg : RegIdx) (scale : BitVec 2)
  | a32SibM0B7I1 (reg : RegIdx) (scale : BitVec 2)
  | a32SibM0B7I2 (reg : RegIdx) (scale : BitVec 2)
  | a32SibM0B7I3 (reg : RegIdx) (scale : BitVec 2)
  | a32SibM0B7I4 (reg : RegIdx) (scale : BitVec 2)
  | a32SibM0B7I5 (reg : RegIdx) (scale : BitVec 2)
  | a32SibM0B7I6 (reg : RegIdx) (scale : BitVec 2)
  | a32SibM0B7I7 (reg : RegIdx) (scale : BitVec 2)
  | a32SibM1B0I0 (reg : RegIdx) (scale : BitVec 2) (disp : BitVec 8)
  | a32SibM1B0I1 (reg : RegIdx) (scale : BitVec 2) (disp : BitVec 8)
  | a32SibM1B0I2 (reg : RegIdx) (scale : BitVec 2) (disp : BitVec 8)
  | a32SibM1B0I3 (reg : RegIdx) (scale : BitVec 2) (disp : BitVec 8)
  | a32SibM1B0I4 (reg : RegIdx) (scale : BitVec 2) (disp : BitVec 8)
  | a32SibM1B0I5 (reg : RegIdx) (scale : BitVec 2) (disp : BitVec 8)
  | a32SibM1B0I6 (reg : RegIdx) (scale : BitVec 2) (disp : BitVec 8)
  | a32SibM1B0I7 (reg : RegIdx) (scale : BitVec 2) (disp : BitVec 8)
  | a32SibM1B1I0 (reg : RegIdx) (scale : BitVec 2) (disp : BitVec 8)
  | a32SibM1B1I1 (reg : RegIdx) (scale : BitVec 2) (disp : BitVec 8)
  | a32SibM1B1I2 (reg : RegIdx) (scale : BitVec 2) (disp : BitVec 8)
  | a32SibM1B1I3 (reg : RegIdx) (scale : BitVec 2) (disp : BitVec 8)
  | a32SibM1B1I4 (reg : RegIdx) (scale : BitVec 2) (disp : BitVec 8)
  | a32SibM1B1I5 (reg : RegIdx) (scale : BitVec 2) (disp : BitVec 8)
  | a32SibM1B1I6 (reg : RegIdx) (scale : BitVec 2) (disp : BitVec 8)
  | a32SibM1B1I7 (reg : RegIdx) (scale : BitVec 2) (disp : BitVec 8)
  | a32SibM1B2I0 (reg : RegIdx) (scale : BitVec 2) (disp : BitVec 8)
  | a32SibM1B2I1 (reg : RegIdx) (scale : BitVec 2) (disp : BitVec 8)
  | a32SibM1B2I2 (reg : RegIdx) (scale : BitVec 2) (disp : BitVec 8)
  | a32SibM1B2I3 (reg : RegIdx) (scale : BitVec 2) (disp : BitVec 8)
  | a32SibM1B2I4 (reg : RegIdx) (scale : BitVec 2) (disp : BitVec 8)
  | a32SibM1B2I5 (reg : RegIdx) (scale : BitVec 2) (disp : BitVec 8)
  | a32SibM1B2I6 (reg : RegIdx) (scale : BitVec 2) (disp : BitVec 8)
  | a32SibM1B2I7 (reg : RegIdx) (scale : BitVec 2) (disp : BitVec 8)
  | a32SibM1B3I0 (reg : RegIdx) (scale : BitVec 2) (disp : BitVec 8)
  | a32SibM1B3I1 (reg : RegIdx) (scale : BitVec 2) (disp : BitVec 8)
  | a32SibM1B3I2 (reg : RegIdx) (scale : BitVec 2) (disp : BitVec 8)
  | a32SibM1B3I3 (reg : RegIdx) (scale : BitVec 2) (disp : BitVec 8)
  | a32SibM1B3I4 (reg : RegIdx) (scale : BitVec 2) (disp : BitVec 8)
  | a32SibM1B3I5 (reg : RegIdx) (scale : BitVec 2) (disp : BitVec 8)
  | a32SibM1B3I6 (reg : RegIdx) (scale : BitVec 2) (disp : BitVec 8)
  | a32SibM1B3I7 (reg : RegIdx) (scale : BitVec 2) (disp : BitVec 8)
  | a32SibM1B4I0 (reg : RegIdx) (scale : BitVec 2) (disp : BitVec 8)
  | a32SibM1B4I1 (reg : RegIdx) (scale : BitVec 2) (disp : BitVec 8)
  | a32SibM1B4I2 (reg : RegIdx) (scale : BitVec 2) (disp : BitVec 8)
  | a32SibM1B4I3 (reg : RegIdx) (scale : BitVec 2) (disp : BitVec 8)
  | a32SibM1B4I4 (reg : RegIdx) (scale : BitVec 2) (disp : BitVec 8)
  | a32SibM1B4I5 (reg : RegIdx) (scale : BitVec 2) (disp : BitVec 8)
  | a32SibM1B4I6 (reg : RegIdx) (scale : BitVec 2) (disp : BitVec 8)
  | a32SibM1B4I7 (reg : RegIdx) (scale : BitVec 2) (disp : BitVec 8)
  | a32SibM1B5I0 (reg : RegIdx) (scale : BitVec 2) (disp : BitVec 8)
  | a32SibM1B5I1 (reg : RegIdx) (scale : BitVec 2) (disp : BitVec 8)
  | a32SibM1B5I2 (reg : RegIdx) (scale : BitVec 2) (disp : BitVec 8)
  | a32SibM1B5I3 (reg : RegIdx) (scale : BitVec 2) (disp : BitVec 8)
  | a32SibM1B5I4 (reg : RegIdx) (scale : BitVec 2) (disp : BitVec 8)
  | a32SibM1B5I5 (reg : RegIdx) (scale : BitVec 2) (disp : BitVec 8)
  | a32SibM1B5I6 (reg : RegIdx) (scale : BitVec 2) (disp : BitVec 8)
  | a32SibM1B5I7 (reg : RegIdx) (scale : BitVec 2) (disp : BitVec 8)
  | a32SibM1B6I0 (reg : RegIdx) (scale : BitVec 2) (disp : BitVec 8)
  | a32SibM1B6I1 (reg : RegIdx) (scale : BitVec 2) (disp : BitVec 8)
  | a32SibM1B6I2 (reg : RegIdx) (scale : BitVec 2) (disp : BitVec 8)
  | a32SibM1B6I3 (reg : RegIdx) (scale : BitVec 2) (disp : BitVec 8)
  | a32SibM1B6I4 (reg : RegIdx) (scale : BitVec 2) (disp : BitVec 8)
  | a32SibM1B6I5 (reg : RegIdx) (scale : BitVec 2) (disp : BitVec 8)
  | a32SibM1B6I6 (reg : RegIdx) (scale : BitVec 2) (disp : BitVec 8)
  | a32SibM1B6I7 (reg : RegIdx) (scale : BitVec 2) (disp : BitVec 8)
  | a32SibM1B7I0 (reg : RegIdx) (scale : BitVec 2) (disp : BitVec 8)
  | a32SibM1B7I1 (reg : RegIdx) (scale : BitVec 2) (disp : BitVec 8)
  | a32SibM1B7I2 (reg : RegIdx) (scale : BitVec 2) (disp : BitVec 8)
  | a32SibM1B7I3 (reg : RegIdx) (scale : BitVec 2) (disp : BitVec 8)
  | a32SibM1B7I4 (reg : RegIdx) (scale : BitVec 2) (disp : BitVec 8)
  | a32SibM1B7I5 (reg : RegIdx) (scale : BitVec 2) (disp : BitVec 8)
  | a32SibM1B7I6 (reg : RegIdx) (scale : BitVec 2) (disp : BitVec 8)
  | a32SibM1B7I7 (reg : RegIdx) (scale : BitVec 2) (disp : BitVec 8)
  | a32SibM2B0I0 (reg : RegIdx) (scale : BitVec 2) (disp : BitVec 32)
  | a32SibM2B0I1 (reg : RegIdx) (scale : BitVec 2) (disp : BitVec 32)
  | a32SibM2B0I2 (reg : RegIdx) (scale : BitVec 2) (disp : BitVec 32)
  | a32SibM2B0I3 (reg : RegIdx) (scale : BitVec 2) (disp : BitVec 32)
  | a32SibM2B0I4 (reg : RegIdx) (scale : BitVec 2) (disp : BitVec 32)
  | a32SibM2B0I5 (reg : RegIdx) (scale : BitVec 2) (disp : BitVec 32)
  | a32SibM2B0I6 (reg : RegIdx) (scale : BitVec 2) (disp : BitVec 32)
  | a32SibM2B0I7 (reg : RegIdx) (scale : BitVec 2) (disp : BitVec 32)
  | a32SibM2B1I0 (reg : RegIdx) (scale : BitVec 2) (disp : BitVec 32)
  | a32SibM2B1I1 (reg : RegIdx) (scale : BitVec 2) (disp : BitVec 32)
  | a32SibM2B1I2 (reg : RegIdx) (scale : BitVec 2) (disp : BitVec 32)
  | a32SibM2B1I3 (reg : RegIdx) (scale : BitVec 2) (disp : BitVec 32)
  | a32SibM2B1I4 (reg : RegIdx) (scale : BitVec 2) (disp : BitVec 32)
  | a32SibM2B1I5 (reg : RegIdx) (scale : BitVec 2) (disp : BitVec 32)
  | a32SibM2B1I6 (reg : RegIdx) (scale : BitVec 2) (disp : BitVec 32)
  | a32SibM2B1I7 (reg : RegIdx) (scale : BitVec 2) (disp : BitVec 32)
  | a32SibM2B2I0 (reg : RegIdx) (scale : BitVec 2) (disp : BitVec 32)
  | a32SibM2B2I1 (reg : RegIdx) (scale : BitVec 2) (disp : BitVec 32)
  | a32SibM2B2I2 (reg : RegIdx) (scale : BitVec 2) (disp : BitVec 32)
  | a32SibM2B2I3 (reg : RegIdx) (scale : BitVec 2) (disp : BitVec 32)
  | a32SibM2B2I4 (reg : RegIdx) (scale : BitVec 2) (disp : BitVec 32)
  | a32SibM2B2I5 (reg : RegIdx) (scale : BitVec 2) (disp : BitVec 32)
  | a32SibM2B2I6 (reg : RegIdx) (scale : BitVec 2) (disp : BitVec 32)
  | a32SibM2B2I7 (reg : RegIdx) (scale : BitVec 2) (disp : BitVec 32)
  | a32SibM2B3I0 (reg : RegIdx) (scale : BitVec 2) (disp : BitVec 32)
  | a32SibM2B3I1 (reg : RegIdx) (scale : BitVec 2) (disp : BitVec 32)
  | a32SibM2B3I2 (reg : RegIdx) (scale : BitVec 2) (disp : BitVec 32)
  | a32SibM2B3I3 (reg : RegIdx) (scale : BitVec 2) (disp : BitVec 32)
  | a32SibM2B3I4 (reg : RegIdx) (scale : BitVec 2) (disp : BitVec 32)
  | a32SibM2B3I5 (reg : RegIdx) (scale : BitVec 2) (disp : BitVec 32)
  | a32SibM2B3I6 (reg : RegIdx) (scale : BitVec 2) (disp : BitVec 32)
  | a32SibM2B3I7 (reg : RegIdx) (scale : BitVec 2) (disp : BitVec 32)
  | a32SibM2B4I0 (reg : RegIdx) (scale : BitVec 2) (disp : BitVec 32)
  | a32SibM2B4I1 (reg : RegIdx) (scale : BitVec 2) (disp : BitVec 32)
  | a32SibM2B4I2 (reg : RegIdx) (scale : BitVec 2) (disp : BitVec 32)
  | a32SibM2B4I3 (reg : RegIdx) (scale : BitVec 2) (disp : BitVec 32)
  | a32SibM2B4I4 (reg : RegIdx) (scale : BitVec 2) (disp : BitVec 32)
  | a32SibM2B4I5 (reg : RegIdx) (scale : BitVec 2) (disp : BitVec 32)
  | a32SibM2B4I6 (reg : RegIdx) (scale : BitVec 2) (disp : BitVec 32)
  | a32SibM2B4I7 (reg : RegIdx) (scale : BitVec 2) (disp : BitVec 32)
  | a32SibM2B5I0 (reg : RegIdx) (scale : BitVec 2) (disp : BitVec 32)
  | a32SibM2B5I1 (reg : RegIdx) (scale : BitVec 2) (disp : BitVec 32)
  | a32SibM2B5I2 (reg : RegIdx) (scale : BitVec 2) (disp : BitVec 32)
  | a32SibM2B5I3 (reg : RegIdx) (scale : BitVec 2) (disp : BitVec 32)
  | a32SibM2B5I4 (reg : RegIdx) (scale : BitVec 2) (disp : BitVec 32)
  | a32SibM2B5I5 (reg : RegIdx) (scale : BitVec 2) (disp : BitVec 32)
  | a32SibM2B5I6 (reg : RegIdx) (scale : BitVec 2) (disp : BitVec 32)
  | a32SibM2B5I7 (reg : RegIdx) (scale : BitVec 2) (disp : BitVec 32)
  | a32SibM2B6I0 (reg : RegIdx) (scale : BitVec 2) (disp : BitVec 32)
  | a32SibM2B6I1 (reg : RegIdx) (scale : BitVec 2) (disp : BitVec 32)
  | a32SibM2B6I2 (reg : RegIdx) (scale : BitVec 2) (disp : BitVec 32)
  | a32SibM2B6I3 (reg : RegIdx) (scale : BitVec 2) (disp : BitVec 32)
  | a32SibM2B6I4 (reg : RegIdx) (scale : BitVec 2) (disp : BitVec 32)
  | a32SibM2B6I5 (reg : RegIdx) (scale : BitVec 2) (disp : BitVec 32)
  | a32SibM2B6I6 (reg : RegIdx) (scale : BitVec 2) (disp : BitVec 32)
  | a32SibM2B6I7 (reg : RegIdx) (scale : BitVec 2) (disp : BitVec 32)
  | a32SibM2B7I0 (reg : RegIdx) (scale : BitVec 2) (disp : BitVec 32)
  | a32SibM2B7I1 (reg : RegIdx) (scale : BitVec 2) (disp : BitVec 32)
  | a32SibM2B7I2 (reg : RegIdx) (scale : BitVec 2) (disp : BitVec 32)
  | a32SibM2B7I3 (reg : RegIdx) (scale : BitVec 2) (disp : BitVec 32)
  | a32SibM2B7I4 (reg : RegIdx) (scale : BitVec 2) (disp : BitVec 32)
  | a32SibM2B7I5 (reg : RegIdx) (scale : BitVec 2) (disp : BitVec 32)
  | a32SibM2B7I6 (reg : RegIdx) (scale : BitVec 2) (disp : BitVec 32)
  | a32SibM2B7I7 (reg : RegIdx) (scale : BitVec 2) (disp : BitVec 32)
  -- prefix bytes (30_encoding.md R101, 10_state.md R41)
  | prefixEs
  | prefixCs
  | prefixSs
  | prefixDs
  | prefixFs
  | prefixGs
  | prefixOpsize
  | prefixAddrsize
  -- port operations (30_encoding.md R106)
  | resolve
  | translate
  | memRead
  | memWrite
  | fetchWindow
  | writePdBase
  | flushCache
  | setA20
  | reset
  deriving DecidableEq, Repr

end Sys2Proof
end

