-- ==== Sys2Proof/WellFormed.lean ====
section
/-! DEFINITION. The arguments of the port operations (30_encoding.md R106) and which instructions are well formed. Every
field of an addressing form or prefix is as wide as the encoding makes it, so only the arguments of two port operations can
be ill formed (45_port_ops.md R256, R257, 20_memory.md R68). -/

namespace Sys2Proof

/-- The argument ports of the block, one slot per kind of argument in R106's list; an operation reads those it has
(log 13). -/
structure PortArguments where
  /-- Linear address of `Translate`, `MemRead`, `MemWrite`, `FetchWindow`. -/
  linear : Word
  /-- Byte count n of `MemRead` and `MemWrite`. -/
  count : Nat
  /-- Value of `MemWrite` (an n-byte number) and of `WritePdBase` (its low 32 bits). -/
  value : Nat
  /-- Access kind of `Translate` and `MemRead`. -/
  kind : AccessKind
  /-- The boolean of `SetA20`. -/
  enabled : Bool
  deriving DecidableEq, Repr

/-- The arguments that stand when nothing has been presented: one byte at address 0 (DESIGN CHOICE, log 13). -/
def PortArguments.idle : PortArguments := { linear := 0, count := 1, value := 0, kind := .read, enabled := false }

/-- `MemRead` needs n >= 1 and kind Read or InstructionFetch (R256); `MemWrite` needs n >= 1 and an n-byte value (R257);
`WritePdBase` needs a 32-bit value (R250). -/
def Instr.wellFormed (a : PortArguments) : Instr → Bool
  | .memRead => decide (1 ≤ a.count) && decide (a.kind ≠ .write)
  | .memWrite => decide (1 ≤ a.count) && decide (a.value < 2 ^ (8 * a.count))
  | .writePdBase => decide (a.value < 2 ^ 32)
  | _ => true

end Sys2Proof
end

