-- ==== Sys2Proof/Decode.lean ====
section
/-! DEFINITION. The decoder and, after it, the encoder (30_encoding.md). The decoder is total on any bytes and rejects by
name. Which row format applies is context, not bytes (R100, R101): `decodeSpecifier` selects it from the address size. -/

namespace Sys2Proof

/-! ### Bit fields and byte order -/

/-- ModR/M bits 7:6 (R91). -/
def modOf (b : Byte) : BitVec 2 := b.extractLsb' 6 2

/-- ModR/M bits 5:3 (R91). -/
def regOf (b : Byte) : RegIdx := b.extractLsb' 3 3

/-- ModR/M bits 2:0 (R91). -/
def rmOf (b : Byte) : RegIdx := b.extractLsb' 0 3

/-- SIB bits 7:6 (R93). -/
def scaleOf (b : Byte) : BitVec 2 := b.extractLsb' 6 2

/-- SIB bits 5:3 (R93). -/
def indexOf (b : Byte) : RegIdx := b.extractLsb' 3 3

/-- SIB bits 2:0 (R93). -/
def baseOf (b : Byte) : RegIdx := b.extractLsb' 0 3

/-- Two bytes of the stream as a number, the first the least significant (R62, R98). -/
def le16 (b0 b1 : Byte) : BitVec 16 := b1 ++ b0

/-- Four bytes of the stream as a number, the first the least significant (R62, R98). -/
def le32 (b0 b1 b2 b3 : Byte) : BitVec 32 := b3 ++ b2 ++ b1 ++ b0

/-- The `i`-th of eight things: one line of the opcode table's matrices. -/
def pick8 {α : Type} (i : RegIdx) (a0 a1 a2 a3 a4 a5 a6 a7 : α) : α :=
  match i.toNat with
  | 0 => a0
  | 1 => a1
  | 2 => a2
  | 3 => a3
  | 4 => a4
  | 5 => a5
  | 6 => a6
  | _ => a7

/-! ### The table's rows, by mod, rm, base and index -/

/-- 16-bit forms without displacement, mod = 0; none for rm = 6, which has one (R127). -/
def form16M0 (rm : RegIdx) : Option (RegIdx → Instr) :=
  pick8 rm (some .a16M0Rm0) (some .a16M0Rm1) (some .a16M0Rm2) (some .a16M0Rm3) (some .a16M0Rm4) (some .a16M0Rm5) none (some .a16M0Rm7)

/-- 16-bit forms with a displacement of 8 bits, mod = 1 (R129 to R136). -/
def form16M1 (rm : RegIdx) : RegIdx → BitVec 8 → Instr :=
  pick8 rm .a16M1Rm0 .a16M1Rm1 .a16M1Rm2 .a16M1Rm3 .a16M1Rm4 .a16M1Rm5 .a16M1Rm6 .a16M1Rm7

/-- 16-bit forms with a displacement of 16 bits, mod = 2 (R137 to R144). -/
def form16M2 (rm : RegIdx) : RegIdx → BitVec 16 → Instr :=
  pick8 rm .a16M2Rm0 .a16M2Rm1 .a16M2Rm2 .a16M2Rm3 .a16M2Rm4 .a16M2Rm5 .a16M2Rm6 .a16M2Rm7

/-- 32-bit forms without displacement, mod = 0: rm = 4 is the SIB escape (R173), none for rm = 5 (R155). -/
def form32M0 (rm : RegIdx) : Option (RegIdx → Instr) :=
  pick8 rm (some .a32M0Rm0) (some .a32M0Rm1) (some .a32M0Rm2) (some .a32M0Rm3) (some .a32SibM0) none (some .a32M0Rm6) (some .a32M0Rm7)

/-- 32-bit forms with a displacement of 8 bits, mod = 1; none for the SIB escape rm = 4 (R158 to R164, R173). -/
def form32M1 (rm : RegIdx) : Option (RegIdx → BitVec 8 → Instr) :=
  pick8 rm (some .a32M1Rm0) (some .a32M1Rm1) (some .a32M1Rm2) (some .a32M1Rm3) none (some .a32M1Rm5) (some .a32M1Rm6) (some .a32M1Rm7)

/-- 32-bit forms with a displacement of 32 bits, mod = 2; none for the SIB escape rm = 4 (R165 to R171, R173). -/
def form32M2 (rm : RegIdx) : Option (RegIdx → BitVec 32 → Instr) :=
  pick8 rm (some .a32M2Rm0) (some .a32M2Rm1) (some .a32M2Rm2) (some .a32M2Rm3) none (some .a32M2Rm5) (some .a32M2Rm6) (some .a32M2Rm7)

/-- SIB forms with mod = 0 and a base register; none for base = 5, which has a displacement (R183, R184). -/
def sibM0 (base index : RegIdx) : Option (RegIdx → BitVec 2 → Instr) :=
  pick8 base
    (some (pick8 index .a32SibM0B0I0 .a32SibM0B0I1 .a32SibM0B0I2 .a32SibM0B0I3 .a32SibM0B0I4 .a32SibM0B0I5 .a32SibM0B0I6 .a32SibM0B0I7))
    (some (pick8 index .a32SibM0B1I0 .a32SibM0B1I1 .a32SibM0B1I2 .a32SibM0B1I3 .a32SibM0B1I4 .a32SibM0B1I5 .a32SibM0B1I6 .a32SibM0B1I7))
    (some (pick8 index .a32SibM0B2I0 .a32SibM0B2I1 .a32SibM0B2I2 .a32SibM0B2I3 .a32SibM0B2I4 .a32SibM0B2I5 .a32SibM0B2I6 .a32SibM0B2I7))
    (some (pick8 index .a32SibM0B3I0 .a32SibM0B3I1 .a32SibM0B3I2 .a32SibM0B3I3 .a32SibM0B3I4 .a32SibM0B3I5 .a32SibM0B3I6 .a32SibM0B3I7))
    (some (pick8 index .a32SibM0B4I0 .a32SibM0B4I1 .a32SibM0B4I2 .a32SibM0B4I3 .a32SibM0B4I4 .a32SibM0B4I5 .a32SibM0B4I6 .a32SibM0B4I7))
    none
    (some (pick8 index .a32SibM0B6I0 .a32SibM0B6I1 .a32SibM0B6I2 .a32SibM0B6I3 .a32SibM0B6I4 .a32SibM0B6I5 .a32SibM0B6I6 .a32SibM0B6I7))
    (some (pick8 index .a32SibM0B7I0 .a32SibM0B7I1 .a32SibM0B7I2 .a32SibM0B7I3 .a32SibM0B7I4 .a32SibM0B7I5 .a32SibM0B7I6 .a32SibM0B7I7))

/-- SIB forms with mod = 0 and base = 5: a 32-bit displacement and no base register (R185, R186). -/
def sibM0B5 (index : RegIdx) : RegIdx → BitVec 2 → BitVec 32 → Instr :=
  pick8 index .a32SibM0B5I0 .a32SibM0B5I1 .a32SibM0B5I2 .a32SibM0B5I3 .a32SibM0B5I4 .a32SibM0B5I5 .a32SibM0B5I6 .a32SibM0B5I7

/-- SIB forms with mod = 1 and an 8-bit displacement (R187, R188). -/
def sibM1 (base index : RegIdx) : RegIdx → BitVec 2 → BitVec 8 → Instr :=
  pick8 base
    (pick8 index .a32SibM1B0I0 .a32SibM1B0I1 .a32SibM1B0I2 .a32SibM1B0I3 .a32SibM1B0I4 .a32SibM1B0I5 .a32SibM1B0I6 .a32SibM1B0I7)
    (pick8 index .a32SibM1B1I0 .a32SibM1B1I1 .a32SibM1B1I2 .a32SibM1B1I3 .a32SibM1B1I4 .a32SibM1B1I5 .a32SibM1B1I6 .a32SibM1B1I7)
    (pick8 index .a32SibM1B2I0 .a32SibM1B2I1 .a32SibM1B2I2 .a32SibM1B2I3 .a32SibM1B2I4 .a32SibM1B2I5 .a32SibM1B2I6 .a32SibM1B2I7)
    (pick8 index .a32SibM1B3I0 .a32SibM1B3I1 .a32SibM1B3I2 .a32SibM1B3I3 .a32SibM1B3I4 .a32SibM1B3I5 .a32SibM1B3I6 .a32SibM1B3I7)
    (pick8 index .a32SibM1B4I0 .a32SibM1B4I1 .a32SibM1B4I2 .a32SibM1B4I3 .a32SibM1B4I4 .a32SibM1B4I5 .a32SibM1B4I6 .a32SibM1B4I7)
    (pick8 index .a32SibM1B5I0 .a32SibM1B5I1 .a32SibM1B5I2 .a32SibM1B5I3 .a32SibM1B5I4 .a32SibM1B5I5 .a32SibM1B5I6 .a32SibM1B5I7)
    (pick8 index .a32SibM1B6I0 .a32SibM1B6I1 .a32SibM1B6I2 .a32SibM1B6I3 .a32SibM1B6I4 .a32SibM1B6I5 .a32SibM1B6I6 .a32SibM1B6I7)
    (pick8 index .a32SibM1B7I0 .a32SibM1B7I1 .a32SibM1B7I2 .a32SibM1B7I3 .a32SibM1B7I4 .a32SibM1B7I5 .a32SibM1B7I6 .a32SibM1B7I7)

/-- SIB forms with mod = 2 and a 32-bit displacement (R189, R190). -/
def sibM2 (base index : RegIdx) : RegIdx → BitVec 2 → BitVec 32 → Instr :=
  pick8 base
    (pick8 index .a32SibM2B0I0 .a32SibM2B0I1 .a32SibM2B0I2 .a32SibM2B0I3 .a32SibM2B0I4 .a32SibM2B0I5 .a32SibM2B0I6 .a32SibM2B0I7)
    (pick8 index .a32SibM2B1I0 .a32SibM2B1I1 .a32SibM2B1I2 .a32SibM2B1I3 .a32SibM2B1I4 .a32SibM2B1I5 .a32SibM2B1I6 .a32SibM2B1I7)
    (pick8 index .a32SibM2B2I0 .a32SibM2B2I1 .a32SibM2B2I2 .a32SibM2B2I3 .a32SibM2B2I4 .a32SibM2B2I5 .a32SibM2B2I6 .a32SibM2B2I7)
    (pick8 index .a32SibM2B3I0 .a32SibM2B3I1 .a32SibM2B3I2 .a32SibM2B3I3 .a32SibM2B3I4 .a32SibM2B3I5 .a32SibM2B3I6 .a32SibM2B3I7)
    (pick8 index .a32SibM2B4I0 .a32SibM2B4I1 .a32SibM2B4I2 .a32SibM2B4I3 .a32SibM2B4I4 .a32SibM2B4I5 .a32SibM2B4I6 .a32SibM2B4I7)
    (pick8 index .a32SibM2B5I0 .a32SibM2B5I1 .a32SibM2B5I2 .a32SibM2B5I3 .a32SibM2B5I4 .a32SibM2B5I5 .a32SibM2B5I6 .a32SibM2B5I7)
    (pick8 index .a32SibM2B6I0 .a32SibM2B6I1 .a32SibM2B6I2 .a32SibM2B6I3 .a32SibM2B6I4 .a32SibM2B6I5 .a32SibM2B6I6 .a32SibM2B6I7)
    (pick8 index .a32SibM2B7I0 .a32SibM2B7I1 .a32SibM2B7I2 .a32SibM2B7I3 .a32SibM2B7I4 .a32SibM2B7I5 .a32SibM2B7I6 .a32SibM2B7I7)

/-! ### Decoding a stream of bytes -/

/-- Why bytes or a port code are rejected. -/
inductive DecodeError where
  /-- The bytes end before the specifier does: the window is overrun (R99). -/
  | windowEnds
  /-- Format M32S asked of a ModR/M byte that no SIB byte follows (R108). -/
  | notSibForm (modrm : Byte)
  /-- Format PREFIX asked of a byte that is none of the eight prefixes (R101). -/
  | notPrefix (byte : Byte)
  /-- No port operation has this code (R106). -/
  | noPortCode (code : BitVec 4)
  deriving DecidableEq, Repr

/-- A decoder's answer: an instruction with the bytes left over, or a named rejection. -/
inductive Decoded where
  | ok (i : Instr) (rest : List Byte)
  | reject (e : DecodeError)
  deriving DecidableEq, Repr

/-- The row formats of R108 whose words stand in the instruction stream. -/
inductive Format where
  | m16
  | m32
  | m32s
  | pfx
  deriving DecidableEq, Repr

/-- Finish a form that takes an 8-bit displacement from the stream. -/
def withDisp8 (f : BitVec 8 → Instr) : List Byte → Decoded
  | d :: rest => .ok (f d) rest
  | [] => .reject .windowEnds

/-- Finish a form that takes a 16-bit displacement from the stream, little-endian (R98). -/
def withDisp16 (f : BitVec 16 → Instr) : List Byte → Decoded
  | d0 :: d1 :: rest => .ok (f (le16 d0 d1)) rest
  | _ => .reject .windowEnds

/-- Finish a form that takes a 32-bit displacement from the stream, little-endian (R98). -/
def withDisp32 (f : BitVec 32 → Instr) : List Byte → Decoded
  | d0 :: d1 :: d2 :: d3 :: rest => .ok (f (le32 d0 d1 d2 d3)) rest
  | _ => .reject .windowEnds

/-- Format M16: 16-bit address mode (R94, R102). -/
def decodeM16 : List Byte → Decoded
  | [] => .reject .windowEnds
  | m :: rest =>
    match (modOf m).toNat with
    | 0 =>
      match form16M0 (rmOf m) with
      | some f => .ok (f (regOf m)) rest
      | none => withDisp16 (.a16M0Rm6 (regOf m)) rest
    | 1 => withDisp8 (form16M1 (rmOf m) (regOf m)) rest
    | 2 => withDisp16 (form16M2 (rmOf m) (regOf m)) rest
    | _ => .ok (.a16Reg (regOf m) (rmOf m)) rest

/-- Format M32: the ModR/M byte in 32-bit address mode; rm = 4 is the SIB escape, its SIB byte left in the stream (R95, R173). -/
def decodeM32 : List Byte → Decoded
  | [] => .reject .windowEnds
  | m :: rest =>
    match (modOf m).toNat with
    | 0 =>
      match form32M0 (rmOf m) with
      | some f => .ok (f (regOf m)) rest
      | none => withDisp32 (.a32M0Rm5 (regOf m)) rest
    | 1 =>
      match form32M1 (rmOf m) with
      | some f => withDisp8 (f (regOf m)) rest
      | none => .ok (.a32SibM1 (regOf m)) rest
    | 2 =>
      match form32M2 (rmOf m) with
      | some f => withDisp32 (f (regOf m)) rest
      | none => .ok (.a32SibM2 (regOf m)) rest
    | _ => .ok (.a32Reg (regOf m) (rmOf m)) rest

/-- A ModR/M byte that a SIB byte follows in 32-bit address mode: mod != 3 and rm = 4 (R93). -/
def isSibEscape (m : Byte) : Bool := decide (modOf m ≠ 3#2) && decide (rmOf m = 4#3)

/-- Format M32S after the ModR/M byte `m` and the SIB byte `sib` (R180 to R190). -/
def decodeSib (m sib : Byte) (rest : List Byte) : Decoded :=
  match (modOf m).toNat with
  | 0 =>
    match sibM0 (baseOf sib) (indexOf sib) with
    | some f => .ok (f (regOf m) (scaleOf sib)) rest
    | none => withDisp32 (sibM0B5 (indexOf sib) (regOf m) (scaleOf sib)) rest
  | 1 => withDisp8 (sibM1 (baseOf sib) (indexOf sib) (regOf m) (scaleOf sib)) rest
  | _ => withDisp32 (sibM2 (baseOf sib) (indexOf sib) (regOf m) (scaleOf sib)) rest

/-- Format M32S: ModR/M and SIB byte in 32-bit address mode (R93, R108). -/
def decodeM32s : List Byte → Decoded
  | m :: sib :: rest => if isSibEscape m then decodeSib m sib rest else .reject (.notSibForm m)
  | [m] => .reject (if isSibEscape m then .windowEnds else .notSibForm m)
  | [] => .reject .windowEnds

/-- Format PREFIX: the eight prefix bytes (R101). -/
def decodePrefix : List Byte → Decoded
  | [] => .reject .windowEnds
  | b :: rest =>
    match b.toNat with
    | 0x26 => .ok .prefixEs rest
    | 0x2E => .ok .prefixCs rest
    | 0x36 => .ok .prefixSs rest
    | 0x3E => .ok .prefixDs rest
    | 0x64 => .ok .prefixFs rest
    | 0x65 => .ok .prefixGs rest
    | 0x66 => .ok .prefixOpsize rest
    | 0x67 => .ok .prefixAddrsize rest
    | _ => .reject (.notPrefix b)

/-- Decode a stream in a given row format. -/
def decode : Format → List Byte → Decoded
  | .m16, bs => decodeM16 bs
  | .m32, bs => decodeM32 bs
  | .m32s, bs => decodeM32s bs
  | .pfx, bs => decodePrefix bs

/-- The row format of an operand specifier: by the address size, and in 32-bit mode by whether a SIB byte stands after an
escape (R100). An escape that is the stream's last byte has no M32S row to match and stays the M32 escape row (log 16). -/
def selectFormat (addressSize32 : Bool) : List Byte → Format
  | m :: _ :: _ => if addressSize32 then (if isSibEscape m then .m32s else .m32) else .m16
  | _ => if addressSize32 then .m32 else .m16

/-- Decode the operand specifier at the head of the stream, in the current address size (R100). -/
def decodeSpecifier (addressSize32 : Bool) (bs : List Byte) : Decoded :=
  decode (selectFormat addressSize32 bs) bs

/-! ### Port codes -/

/-- The port operation of a code (R106); the numbers exist only in the table. -/
def decodePort (code : BitVec 4) : Decoded :=
  match code.toNat with
  | 0 => .ok .resolve []
  | 1 => .ok .translate []
  | 2 => .ok .memRead []
  | 3 => .ok .memWrite []
  | 4 => .ok .fetchWindow []
  | 5 => .ok .writePdBase []
  | 6 => .ok .flushCache []
  | 7 => .ok .setA20 []
  | 8 => .ok .reset []
  | _ => .reject (.noPortCode code)

/-! ### Words numbered as the opcode table numbers them -/

/-- The bytes of an instruction whose table bits are `w`, in stream order, zeros after them: the ModR/M byte of a 16-bit
M32S word is its HIGH half because it comes first in the stream (R108, log 15). -/
def tableBytes (nbits w : Nat) : List Byte :=
  (if nbits ≤ 8 then [BitVec.ofNat 8 w] else [BitVec.ofNat 8 (w / 256), BitVec.ofNat 8 w]) ++ List.replicate 6 0#8

/-- The instruction the decoder reads from a table word. The table gives 8-bit words to rows of three formats and a word
does not say which; a prefix byte is read as its prefix, any other in the 16-bit address mode (log 14). Words of at most 4
bits are port codes, 16-bit words are specifiers of the 32-bit address mode. -/
def decodeTableWord (nbits w : Nat) : Option Instr :=
  let d :=
    if nbits ≤ 4 then decodePort (BitVec.ofNat 4 w)
    else if nbits ≤ 8 then
      match decodePrefix (tableBytes nbits w) with
      | .ok i rest => .ok i rest
      | .reject _ => decodeSpecifier false (tableBytes nbits w)
    else decodeSpecifier true (tableBytes nbits w)
  match d with
  | .ok i _ => some i
  | .reject _ => none

/-! ### The encoder -/

/-- The ModR/M byte of three fields (R91). -/
def modrmByte (mod : BitVec 2) (reg rm : RegIdx) : Byte := mod ++ reg ++ rm

/-- The SIB byte of three fields (R93). -/
def sibByte (scale : BitVec 2) (index base : RegIdx) : Byte := scale ++ index ++ base

/-- The two bytes of a number, least significant first (R62). -/
def bytes16 (v : BitVec 16) : List Byte := [v.extractLsb' 0 8, v.extractLsb' 8 8]

/-- The four bytes of a number, least significant first (R62). -/
def bytes32 (v : BitVec 32) : List Byte :=
  [v.extractLsb' 0 8, v.extractLsb' 8 8, v.extractLsb' 16 8, v.extractLsb' 24 8]

/-- What an M16 or M32 row and its operands put into the encoding. -/
structure ModrmFields where
  addressSize32 : Bool
  mod : BitVec 2
  rm : RegIdx
  reg : RegIdx
  disp : List Byte
  deriving DecidableEq, Repr

/-- The fields of an M16 or M32 instruction, as the table's rows give them. -/
def Instr.modrmFields : Instr → Option ModrmFields
  | .a16M0Rm0 reg => some ⟨false, 0, 0, reg, []⟩
  | .a16M0Rm1 reg => some ⟨false, 0, 1, reg, []⟩
  | .a16M0Rm2 reg => some ⟨false, 0, 2, reg, []⟩
  | .a16M0Rm3 reg => some ⟨false, 0, 3, reg, []⟩
  | .a16M0Rm4 reg => some ⟨false, 0, 4, reg, []⟩
  | .a16M0Rm5 reg => some ⟨false, 0, 5, reg, []⟩
  | .a16M0Rm6 reg disp => some ⟨false, 0, 6, reg, (bytes16 disp)⟩
  | .a16M0Rm7 reg => some ⟨false, 0, 7, reg, []⟩
  | .a16M1Rm0 reg disp => some ⟨false, 1, 0, reg, [disp]⟩
  | .a16M1Rm1 reg disp => some ⟨false, 1, 1, reg, [disp]⟩
  | .a16M1Rm2 reg disp => some ⟨false, 1, 2, reg, [disp]⟩
  | .a16M1Rm3 reg disp => some ⟨false, 1, 3, reg, [disp]⟩
  | .a16M1Rm4 reg disp => some ⟨false, 1, 4, reg, [disp]⟩
  | .a16M1Rm5 reg disp => some ⟨false, 1, 5, reg, [disp]⟩
  | .a16M1Rm6 reg disp => some ⟨false, 1, 6, reg, [disp]⟩
  | .a16M1Rm7 reg disp => some ⟨false, 1, 7, reg, [disp]⟩
  | .a16M2Rm0 reg disp => some ⟨false, 2, 0, reg, (bytes16 disp)⟩
  | .a16M2Rm1 reg disp => some ⟨false, 2, 1, reg, (bytes16 disp)⟩
  | .a16M2Rm2 reg disp => some ⟨false, 2, 2, reg, (bytes16 disp)⟩
  | .a16M2Rm3 reg disp => some ⟨false, 2, 3, reg, (bytes16 disp)⟩
  | .a16M2Rm4 reg disp => some ⟨false, 2, 4, reg, (bytes16 disp)⟩
  | .a16M2Rm5 reg disp => some ⟨false, 2, 5, reg, (bytes16 disp)⟩
  | .a16M2Rm6 reg disp => some ⟨false, 2, 6, reg, (bytes16 disp)⟩
  | .a16M2Rm7 reg disp => some ⟨false, 2, 7, reg, (bytes16 disp)⟩
  | .a16Reg reg rm => some ⟨false, 3, rm, reg, []⟩
  | .a32M0Rm0 reg => some ⟨true, 0, 0, reg, []⟩
  | .a32M0Rm1 reg => some ⟨true, 0, 1, reg, []⟩
  | .a32M0Rm2 reg => some ⟨true, 0, 2, reg, []⟩
  | .a32M0Rm3 reg => some ⟨true, 0, 3, reg, []⟩
  | .a32M0Rm5 reg disp => some ⟨true, 0, 5, reg, (bytes32 disp)⟩
  | .a32M0Rm6 reg => some ⟨true, 0, 6, reg, []⟩
  | .a32M0Rm7 reg => some ⟨true, 0, 7, reg, []⟩
  | .a32M1Rm0 reg disp => some ⟨true, 1, 0, reg, [disp]⟩
  | .a32M1Rm1 reg disp => some ⟨true, 1, 1, reg, [disp]⟩
  | .a32M1Rm2 reg disp => some ⟨true, 1, 2, reg, [disp]⟩
  | .a32M1Rm3 reg disp => some ⟨true, 1, 3, reg, [disp]⟩
  | .a32M1Rm5 reg disp => some ⟨true, 1, 5, reg, [disp]⟩
  | .a32M1Rm6 reg disp => some ⟨true, 1, 6, reg, [disp]⟩
  | .a32M1Rm7 reg disp => some ⟨true, 1, 7, reg, [disp]⟩
  | .a32M2Rm0 reg disp => some ⟨true, 2, 0, reg, (bytes32 disp)⟩
  | .a32M2Rm1 reg disp => some ⟨true, 2, 1, reg, (bytes32 disp)⟩
  | .a32M2Rm2 reg disp => some ⟨true, 2, 2, reg, (bytes32 disp)⟩
  | .a32M2Rm3 reg disp => some ⟨true, 2, 3, reg, (bytes32 disp)⟩
  | .a32M2Rm5 reg disp => some ⟨true, 2, 5, reg, (bytes32 disp)⟩
  | .a32M2Rm6 reg disp => some ⟨true, 2, 6, reg, (bytes32 disp)⟩
  | .a32M2Rm7 reg disp => some ⟨true, 2, 7, reg, (bytes32 disp)⟩
  | .a32Reg reg rm => some ⟨true, 3, rm, reg, []⟩
  | .a32SibM0 reg => some ⟨true, 0, 4, reg, []⟩
  | .a32SibM1 reg => some ⟨true, 1, 4, reg, []⟩
  | .a32SibM2 reg => some ⟨true, 2, 4, reg, []⟩
  | _ => none

/-- What an M32S row and its operands put into the encoding. -/
structure SibFields where
  mod : BitVec 2
  base : RegIdx
  index : RegIdx
  reg : RegIdx
  scale : BitVec 2
  disp : List Byte
  deriving DecidableEq, Repr

/-- The fields of an M32S instruction, as the table's rows give them. -/
def Instr.sibFields : Instr → Option SibFields
  | .a32SibM0B0I0 reg scale => some ⟨0, 0, 0, reg, scale, []⟩
  | .a32SibM0B0I1 reg scale => some ⟨0, 0, 1, reg, scale, []⟩
  | .a32SibM0B0I2 reg scale => some ⟨0, 0, 2, reg, scale, []⟩
  | .a32SibM0B0I3 reg scale => some ⟨0, 0, 3, reg, scale, []⟩
  | .a32SibM0B0I4 reg scale => some ⟨0, 0, 4, reg, scale, []⟩
  | .a32SibM0B0I5 reg scale => some ⟨0, 0, 5, reg, scale, []⟩
  | .a32SibM0B0I6 reg scale => some ⟨0, 0, 6, reg, scale, []⟩
  | .a32SibM0B0I7 reg scale => some ⟨0, 0, 7, reg, scale, []⟩
  | .a32SibM0B1I0 reg scale => some ⟨0, 1, 0, reg, scale, []⟩
  | .a32SibM0B1I1 reg scale => some ⟨0, 1, 1, reg, scale, []⟩
  | .a32SibM0B1I2 reg scale => some ⟨0, 1, 2, reg, scale, []⟩
  | .a32SibM0B1I3 reg scale => some ⟨0, 1, 3, reg, scale, []⟩
  | .a32SibM0B1I4 reg scale => some ⟨0, 1, 4, reg, scale, []⟩
  | .a32SibM0B1I5 reg scale => some ⟨0, 1, 5, reg, scale, []⟩
  | .a32SibM0B1I6 reg scale => some ⟨0, 1, 6, reg, scale, []⟩
  | .a32SibM0B1I7 reg scale => some ⟨0, 1, 7, reg, scale, []⟩
  | .a32SibM0B2I0 reg scale => some ⟨0, 2, 0, reg, scale, []⟩
  | .a32SibM0B2I1 reg scale => some ⟨0, 2, 1, reg, scale, []⟩
  | .a32SibM0B2I2 reg scale => some ⟨0, 2, 2, reg, scale, []⟩
  | .a32SibM0B2I3 reg scale => some ⟨0, 2, 3, reg, scale, []⟩
  | .a32SibM0B2I4 reg scale => some ⟨0, 2, 4, reg, scale, []⟩
  | .a32SibM0B2I5 reg scale => some ⟨0, 2, 5, reg, scale, []⟩
  | .a32SibM0B2I6 reg scale => some ⟨0, 2, 6, reg, scale, []⟩
  | .a32SibM0B2I7 reg scale => some ⟨0, 2, 7, reg, scale, []⟩
  | .a32SibM0B3I0 reg scale => some ⟨0, 3, 0, reg, scale, []⟩
  | .a32SibM0B3I1 reg scale => some ⟨0, 3, 1, reg, scale, []⟩
  | .a32SibM0B3I2 reg scale => some ⟨0, 3, 2, reg, scale, []⟩
  | .a32SibM0B3I3 reg scale => some ⟨0, 3, 3, reg, scale, []⟩
  | .a32SibM0B3I4 reg scale => some ⟨0, 3, 4, reg, scale, []⟩
  | .a32SibM0B3I5 reg scale => some ⟨0, 3, 5, reg, scale, []⟩
  | .a32SibM0B3I6 reg scale => some ⟨0, 3, 6, reg, scale, []⟩
  | .a32SibM0B3I7 reg scale => some ⟨0, 3, 7, reg, scale, []⟩
  | .a32SibM0B4I0 reg scale => some ⟨0, 4, 0, reg, scale, []⟩
  | .a32SibM0B4I1 reg scale => some ⟨0, 4, 1, reg, scale, []⟩
  | .a32SibM0B4I2 reg scale => some ⟨0, 4, 2, reg, scale, []⟩
  | .a32SibM0B4I3 reg scale => some ⟨0, 4, 3, reg, scale, []⟩
  | .a32SibM0B4I4 reg scale => some ⟨0, 4, 4, reg, scale, []⟩
  | .a32SibM0B4I5 reg scale => some ⟨0, 4, 5, reg, scale, []⟩
  | .a32SibM0B4I6 reg scale => some ⟨0, 4, 6, reg, scale, []⟩
  | .a32SibM0B4I7 reg scale => some ⟨0, 4, 7, reg, scale, []⟩
  | .a32SibM0B5I0 reg scale disp => some ⟨0, 5, 0, reg, scale, (bytes32 disp)⟩
  | .a32SibM0B5I1 reg scale disp => some ⟨0, 5, 1, reg, scale, (bytes32 disp)⟩
  | .a32SibM0B5I2 reg scale disp => some ⟨0, 5, 2, reg, scale, (bytes32 disp)⟩
  | .a32SibM0B5I3 reg scale disp => some ⟨0, 5, 3, reg, scale, (bytes32 disp)⟩
  | .a32SibM0B5I4 reg scale disp => some ⟨0, 5, 4, reg, scale, (bytes32 disp)⟩
  | .a32SibM0B5I5 reg scale disp => some ⟨0, 5, 5, reg, scale, (bytes32 disp)⟩
  | .a32SibM0B5I6 reg scale disp => some ⟨0, 5, 6, reg, scale, (bytes32 disp)⟩
  | .a32SibM0B5I7 reg scale disp => some ⟨0, 5, 7, reg, scale, (bytes32 disp)⟩
  | .a32SibM0B6I0 reg scale => some ⟨0, 6, 0, reg, scale, []⟩
  | .a32SibM0B6I1 reg scale => some ⟨0, 6, 1, reg, scale, []⟩
  | .a32SibM0B6I2 reg scale => some ⟨0, 6, 2, reg, scale, []⟩
  | .a32SibM0B6I3 reg scale => some ⟨0, 6, 3, reg, scale, []⟩
  | .a32SibM0B6I4 reg scale => some ⟨0, 6, 4, reg, scale, []⟩
  | .a32SibM0B6I5 reg scale => some ⟨0, 6, 5, reg, scale, []⟩
  | .a32SibM0B6I6 reg scale => some ⟨0, 6, 6, reg, scale, []⟩
  | .a32SibM0B6I7 reg scale => some ⟨0, 6, 7, reg, scale, []⟩
  | .a32SibM0B7I0 reg scale => some ⟨0, 7, 0, reg, scale, []⟩
  | .a32SibM0B7I1 reg scale => some ⟨0, 7, 1, reg, scale, []⟩
  | .a32SibM0B7I2 reg scale => some ⟨0, 7, 2, reg, scale, []⟩
  | .a32SibM0B7I3 reg scale => some ⟨0, 7, 3, reg, scale, []⟩
  | .a32SibM0B7I4 reg scale => some ⟨0, 7, 4, reg, scale, []⟩
  | .a32SibM0B7I5 reg scale => some ⟨0, 7, 5, reg, scale, []⟩
  | .a32SibM0B7I6 reg scale => some ⟨0, 7, 6, reg, scale, []⟩
  | .a32SibM0B7I7 reg scale => some ⟨0, 7, 7, reg, scale, []⟩
  | .a32SibM1B0I0 reg scale disp => some ⟨1, 0, 0, reg, scale, [disp]⟩
  | .a32SibM1B0I1 reg scale disp => some ⟨1, 0, 1, reg, scale, [disp]⟩
  | .a32SibM1B0I2 reg scale disp => some ⟨1, 0, 2, reg, scale, [disp]⟩
  | .a32SibM1B0I3 reg scale disp => some ⟨1, 0, 3, reg, scale, [disp]⟩
  | .a32SibM1B0I4 reg scale disp => some ⟨1, 0, 4, reg, scale, [disp]⟩
  | .a32SibM1B0I5 reg scale disp => some ⟨1, 0, 5, reg, scale, [disp]⟩
  | .a32SibM1B0I6 reg scale disp => some ⟨1, 0, 6, reg, scale, [disp]⟩
  | .a32SibM1B0I7 reg scale disp => some ⟨1, 0, 7, reg, scale, [disp]⟩
  | .a32SibM1B1I0 reg scale disp => some ⟨1, 1, 0, reg, scale, [disp]⟩
  | .a32SibM1B1I1 reg scale disp => some ⟨1, 1, 1, reg, scale, [disp]⟩
  | .a32SibM1B1I2 reg scale disp => some ⟨1, 1, 2, reg, scale, [disp]⟩
  | .a32SibM1B1I3 reg scale disp => some ⟨1, 1, 3, reg, scale, [disp]⟩
  | .a32SibM1B1I4 reg scale disp => some ⟨1, 1, 4, reg, scale, [disp]⟩
  | .a32SibM1B1I5 reg scale disp => some ⟨1, 1, 5, reg, scale, [disp]⟩
  | .a32SibM1B1I6 reg scale disp => some ⟨1, 1, 6, reg, scale, [disp]⟩
  | .a32SibM1B1I7 reg scale disp => some ⟨1, 1, 7, reg, scale, [disp]⟩
  | .a32SibM1B2I0 reg scale disp => some ⟨1, 2, 0, reg, scale, [disp]⟩
  | .a32SibM1B2I1 reg scale disp => some ⟨1, 2, 1, reg, scale, [disp]⟩
  | .a32SibM1B2I2 reg scale disp => some ⟨1, 2, 2, reg, scale, [disp]⟩
  | .a32SibM1B2I3 reg scale disp => some ⟨1, 2, 3, reg, scale, [disp]⟩
  | .a32SibM1B2I4 reg scale disp => some ⟨1, 2, 4, reg, scale, [disp]⟩
  | .a32SibM1B2I5 reg scale disp => some ⟨1, 2, 5, reg, scale, [disp]⟩
  | .a32SibM1B2I6 reg scale disp => some ⟨1, 2, 6, reg, scale, [disp]⟩
  | .a32SibM1B2I7 reg scale disp => some ⟨1, 2, 7, reg, scale, [disp]⟩
  | .a32SibM1B3I0 reg scale disp => some ⟨1, 3, 0, reg, scale, [disp]⟩
  | .a32SibM1B3I1 reg scale disp => some ⟨1, 3, 1, reg, scale, [disp]⟩
  | .a32SibM1B3I2 reg scale disp => some ⟨1, 3, 2, reg, scale, [disp]⟩
  | .a32SibM1B3I3 reg scale disp => some ⟨1, 3, 3, reg, scale, [disp]⟩
  | .a32SibM1B3I4 reg scale disp => some ⟨1, 3, 4, reg, scale, [disp]⟩
  | .a32SibM1B3I5 reg scale disp => some ⟨1, 3, 5, reg, scale, [disp]⟩
  | .a32SibM1B3I6 reg scale disp => some ⟨1, 3, 6, reg, scale, [disp]⟩
  | .a32SibM1B3I7 reg scale disp => some ⟨1, 3, 7, reg, scale, [disp]⟩
  | .a32SibM1B4I0 reg scale disp => some ⟨1, 4, 0, reg, scale, [disp]⟩
  | .a32SibM1B4I1 reg scale disp => some ⟨1, 4, 1, reg, scale, [disp]⟩
  | .a32SibM1B4I2 reg scale disp => some ⟨1, 4, 2, reg, scale, [disp]⟩
  | .a32SibM1B4I3 reg scale disp => some ⟨1, 4, 3, reg, scale, [disp]⟩
  | .a32SibM1B4I4 reg scale disp => some ⟨1, 4, 4, reg, scale, [disp]⟩
  | .a32SibM1B4I5 reg scale disp => some ⟨1, 4, 5, reg, scale, [disp]⟩
  | .a32SibM1B4I6 reg scale disp => some ⟨1, 4, 6, reg, scale, [disp]⟩
  | .a32SibM1B4I7 reg scale disp => some ⟨1, 4, 7, reg, scale, [disp]⟩
  | .a32SibM1B5I0 reg scale disp => some ⟨1, 5, 0, reg, scale, [disp]⟩
  | .a32SibM1B5I1 reg scale disp => some ⟨1, 5, 1, reg, scale, [disp]⟩
  | .a32SibM1B5I2 reg scale disp => some ⟨1, 5, 2, reg, scale, [disp]⟩
  | .a32SibM1B5I3 reg scale disp => some ⟨1, 5, 3, reg, scale, [disp]⟩
  | .a32SibM1B5I4 reg scale disp => some ⟨1, 5, 4, reg, scale, [disp]⟩
  | .a32SibM1B5I5 reg scale disp => some ⟨1, 5, 5, reg, scale, [disp]⟩
  | .a32SibM1B5I6 reg scale disp => some ⟨1, 5, 6, reg, scale, [disp]⟩
  | .a32SibM1B5I7 reg scale disp => some ⟨1, 5, 7, reg, scale, [disp]⟩
  | .a32SibM1B6I0 reg scale disp => some ⟨1, 6, 0, reg, scale, [disp]⟩
  | .a32SibM1B6I1 reg scale disp => some ⟨1, 6, 1, reg, scale, [disp]⟩
  | .a32SibM1B6I2 reg scale disp => some ⟨1, 6, 2, reg, scale, [disp]⟩
  | .a32SibM1B6I3 reg scale disp => some ⟨1, 6, 3, reg, scale, [disp]⟩
  | .a32SibM1B6I4 reg scale disp => some ⟨1, 6, 4, reg, scale, [disp]⟩
  | .a32SibM1B6I5 reg scale disp => some ⟨1, 6, 5, reg, scale, [disp]⟩
  | .a32SibM1B6I6 reg scale disp => some ⟨1, 6, 6, reg, scale, [disp]⟩
  | .a32SibM1B6I7 reg scale disp => some ⟨1, 6, 7, reg, scale, [disp]⟩
  | .a32SibM1B7I0 reg scale disp => some ⟨1, 7, 0, reg, scale, [disp]⟩
  | .a32SibM1B7I1 reg scale disp => some ⟨1, 7, 1, reg, scale, [disp]⟩
  | .a32SibM1B7I2 reg scale disp => some ⟨1, 7, 2, reg, scale, [disp]⟩
  | .a32SibM1B7I3 reg scale disp => some ⟨1, 7, 3, reg, scale, [disp]⟩
  | .a32SibM1B7I4 reg scale disp => some ⟨1, 7, 4, reg, scale, [disp]⟩
  | .a32SibM1B7I5 reg scale disp => some ⟨1, 7, 5, reg, scale, [disp]⟩
  | .a32SibM1B7I6 reg scale disp => some ⟨1, 7, 6, reg, scale, [disp]⟩
  | .a32SibM1B7I7 reg scale disp => some ⟨1, 7, 7, reg, scale, [disp]⟩
  | .a32SibM2B0I0 reg scale disp => some ⟨2, 0, 0, reg, scale, (bytes32 disp)⟩
  | .a32SibM2B0I1 reg scale disp => some ⟨2, 0, 1, reg, scale, (bytes32 disp)⟩
  | .a32SibM2B0I2 reg scale disp => some ⟨2, 0, 2, reg, scale, (bytes32 disp)⟩
  | .a32SibM2B0I3 reg scale disp => some ⟨2, 0, 3, reg, scale, (bytes32 disp)⟩
  | .a32SibM2B0I4 reg scale disp => some ⟨2, 0, 4, reg, scale, (bytes32 disp)⟩
  | .a32SibM2B0I5 reg scale disp => some ⟨2, 0, 5, reg, scale, (bytes32 disp)⟩
  | .a32SibM2B0I6 reg scale disp => some ⟨2, 0, 6, reg, scale, (bytes32 disp)⟩
  | .a32SibM2B0I7 reg scale disp => some ⟨2, 0, 7, reg, scale, (bytes32 disp)⟩
  | .a32SibM2B1I0 reg scale disp => some ⟨2, 1, 0, reg, scale, (bytes32 disp)⟩
  | .a32SibM2B1I1 reg scale disp => some ⟨2, 1, 1, reg, scale, (bytes32 disp)⟩
  | .a32SibM2B1I2 reg scale disp => some ⟨2, 1, 2, reg, scale, (bytes32 disp)⟩
  | .a32SibM2B1I3 reg scale disp => some ⟨2, 1, 3, reg, scale, (bytes32 disp)⟩
  | .a32SibM2B1I4 reg scale disp => some ⟨2, 1, 4, reg, scale, (bytes32 disp)⟩
  | .a32SibM2B1I5 reg scale disp => some ⟨2, 1, 5, reg, scale, (bytes32 disp)⟩
  | .a32SibM2B1I6 reg scale disp => some ⟨2, 1, 6, reg, scale, (bytes32 disp)⟩
  | .a32SibM2B1I7 reg scale disp => some ⟨2, 1, 7, reg, scale, (bytes32 disp)⟩
  | .a32SibM2B2I0 reg scale disp => some ⟨2, 2, 0, reg, scale, (bytes32 disp)⟩
  | .a32SibM2B2I1 reg scale disp => some ⟨2, 2, 1, reg, scale, (bytes32 disp)⟩
  | .a32SibM2B2I2 reg scale disp => some ⟨2, 2, 2, reg, scale, (bytes32 disp)⟩
  | .a32SibM2B2I3 reg scale disp => some ⟨2, 2, 3, reg, scale, (bytes32 disp)⟩
  | .a32SibM2B2I4 reg scale disp => some ⟨2, 2, 4, reg, scale, (bytes32 disp)⟩
  | .a32SibM2B2I5 reg scale disp => some ⟨2, 2, 5, reg, scale, (bytes32 disp)⟩
  | .a32SibM2B2I6 reg scale disp => some ⟨2, 2, 6, reg, scale, (bytes32 disp)⟩
  | .a32SibM2B2I7 reg scale disp => some ⟨2, 2, 7, reg, scale, (bytes32 disp)⟩
  | .a32SibM2B3I0 reg scale disp => some ⟨2, 3, 0, reg, scale, (bytes32 disp)⟩
  | .a32SibM2B3I1 reg scale disp => some ⟨2, 3, 1, reg, scale, (bytes32 disp)⟩
  | .a32SibM2B3I2 reg scale disp => some ⟨2, 3, 2, reg, scale, (bytes32 disp)⟩
  | .a32SibM2B3I3 reg scale disp => some ⟨2, 3, 3, reg, scale, (bytes32 disp)⟩
  | .a32SibM2B3I4 reg scale disp => some ⟨2, 3, 4, reg, scale, (bytes32 disp)⟩
  | .a32SibM2B3I5 reg scale disp => some ⟨2, 3, 5, reg, scale, (bytes32 disp)⟩
  | .a32SibM2B3I6 reg scale disp => some ⟨2, 3, 6, reg, scale, (bytes32 disp)⟩
  | .a32SibM2B3I7 reg scale disp => some ⟨2, 3, 7, reg, scale, (bytes32 disp)⟩
  | .a32SibM2B4I0 reg scale disp => some ⟨2, 4, 0, reg, scale, (bytes32 disp)⟩
  | .a32SibM2B4I1 reg scale disp => some ⟨2, 4, 1, reg, scale, (bytes32 disp)⟩
  | .a32SibM2B4I2 reg scale disp => some ⟨2, 4, 2, reg, scale, (bytes32 disp)⟩
  | .a32SibM2B4I3 reg scale disp => some ⟨2, 4, 3, reg, scale, (bytes32 disp)⟩
  | .a32SibM2B4I4 reg scale disp => some ⟨2, 4, 4, reg, scale, (bytes32 disp)⟩
  | .a32SibM2B4I5 reg scale disp => some ⟨2, 4, 5, reg, scale, (bytes32 disp)⟩
  | .a32SibM2B4I6 reg scale disp => some ⟨2, 4, 6, reg, scale, (bytes32 disp)⟩
  | .a32SibM2B4I7 reg scale disp => some ⟨2, 4, 7, reg, scale, (bytes32 disp)⟩
  | .a32SibM2B5I0 reg scale disp => some ⟨2, 5, 0, reg, scale, (bytes32 disp)⟩
  | .a32SibM2B5I1 reg scale disp => some ⟨2, 5, 1, reg, scale, (bytes32 disp)⟩
  | .a32SibM2B5I2 reg scale disp => some ⟨2, 5, 2, reg, scale, (bytes32 disp)⟩
  | .a32SibM2B5I3 reg scale disp => some ⟨2, 5, 3, reg, scale, (bytes32 disp)⟩
  | .a32SibM2B5I4 reg scale disp => some ⟨2, 5, 4, reg, scale, (bytes32 disp)⟩
  | .a32SibM2B5I5 reg scale disp => some ⟨2, 5, 5, reg, scale, (bytes32 disp)⟩
  | .a32SibM2B5I6 reg scale disp => some ⟨2, 5, 6, reg, scale, (bytes32 disp)⟩
  | .a32SibM2B5I7 reg scale disp => some ⟨2, 5, 7, reg, scale, (bytes32 disp)⟩
  | .a32SibM2B6I0 reg scale disp => some ⟨2, 6, 0, reg, scale, (bytes32 disp)⟩
  | .a32SibM2B6I1 reg scale disp => some ⟨2, 6, 1, reg, scale, (bytes32 disp)⟩
  | .a32SibM2B6I2 reg scale disp => some ⟨2, 6, 2, reg, scale, (bytes32 disp)⟩
  | .a32SibM2B6I3 reg scale disp => some ⟨2, 6, 3, reg, scale, (bytes32 disp)⟩
  | .a32SibM2B6I4 reg scale disp => some ⟨2, 6, 4, reg, scale, (bytes32 disp)⟩
  | .a32SibM2B6I5 reg scale disp => some ⟨2, 6, 5, reg, scale, (bytes32 disp)⟩
  | .a32SibM2B6I6 reg scale disp => some ⟨2, 6, 6, reg, scale, (bytes32 disp)⟩
  | .a32SibM2B6I7 reg scale disp => some ⟨2, 6, 7, reg, scale, (bytes32 disp)⟩
  | .a32SibM2B7I0 reg scale disp => some ⟨2, 7, 0, reg, scale, (bytes32 disp)⟩
  | .a32SibM2B7I1 reg scale disp => some ⟨2, 7, 1, reg, scale, (bytes32 disp)⟩
  | .a32SibM2B7I2 reg scale disp => some ⟨2, 7, 2, reg, scale, (bytes32 disp)⟩
  | .a32SibM2B7I3 reg scale disp => some ⟨2, 7, 3, reg, scale, (bytes32 disp)⟩
  | .a32SibM2B7I4 reg scale disp => some ⟨2, 7, 4, reg, scale, (bytes32 disp)⟩
  | .a32SibM2B7I5 reg scale disp => some ⟨2, 7, 5, reg, scale, (bytes32 disp)⟩
  | .a32SibM2B7I6 reg scale disp => some ⟨2, 7, 6, reg, scale, (bytes32 disp)⟩
  | .a32SibM2B7I7 reg scale disp => some ⟨2, 7, 7, reg, scale, (bytes32 disp)⟩
  | _ => none

/-- The byte of a prefix (R101). -/
def Instr.prefixByte : Instr → Option Byte
  | .prefixEs => some 0x26
  | .prefixCs => some 0x2E
  | .prefixSs => some 0x36
  | .prefixDs => some 0x3E
  | .prefixFs => some 0x64
  | .prefixGs => some 0x65
  | .prefixOpsize => some 0x66
  | .prefixAddrsize => some 0x67
  | _ => none

/-- The code of a port operation; none for any other instruction (R106). -/
def Instr.portCode : Instr → Option (BitVec 4)
  | .resolve => some 0
  | .translate => some 1
  | .memRead => some 2
  | .memWrite => some 3
  | .fetchWindow => some 4
  | .writePdBase => some 5
  | .flushCache => some 6
  | .setA20 => some 7
  | .reset => some 8
  | _ => none

/-- An encoded instruction: bytes of the stream with the row format they are read in, or a port code. -/
inductive Encoded where
  | stream (format : Format) (bytes : List Byte)
  | port (code : BitVec 4)
  deriving DecidableEq, Repr

/-- The words of an instruction (R91, R93, R94, R95, R101, R106). -/
def encode (i : Instr) : Encoded :=
  match i.modrmFields with
  | some f => .stream (if f.addressSize32 then .m32 else .m16) (modrmByte f.mod f.reg f.rm :: f.disp)
  | none =>
    match i.sibFields with
    | some f => .stream .m32s (modrmByte f.mod f.reg 4 :: sibByte f.scale f.index f.base :: f.disp)
    | none =>
      match i.prefixByte with
      | some b => .stream .pfx [b]
      | none => .port (i.portCode.getD 0)

/-- Decode what the encoder wrote, with more bytes of the stream after it. -/
def decodeEncoded (e : Encoded) (rest : List Byte) : Decoded :=
  match e with
  | .stream format bytes => decode format (bytes ++ rest)
  | .port code => decodePort code

/-- How many bytes of the stream an encoded instruction takes; a port code takes none. -/
def Encoded.length : Encoded → Nat
  | .stream _ bytes => bytes.length
  | .port _ => 0

end Sys2Proof
end

