-- ==== Sys2Proof/Machine/Descriptor.lean ====
section
/-! DEFINITION. What the dispatch engine and a semantic handler hand to the block for one CPU instruction (00_scope.md R4,
10_state.md R46, 45_port_ops.md R259). Opcode catalog and handlers are outside the spec, so their answers are inputs:
plain data, over which every statement quantifies (log 21, 22). -/

namespace Sys2Proof.Machine

/-- Width of a register location in this block's register file (R33). -/
inductive RegWidth where
  | one
  | two
  | four
  deriving DecidableEq, Repr

def RegWidth.bytes : RegWidth → Nat
  | .one => 1
  | .two => 2
  | .four => 4

/-- Width of a memory operand: 1, 2, 4, 8 bytes, or the 10-byte extended float (R68). -/
inductive Width where
  | one
  | two
  | four
  | eight
  | ten
  deriving DecidableEq, Repr

def Width.bytes : Width → Nat
  | .one => 1
  | .two => 2
  | .four => 4
  | .eight => 8
  | .ten => 10

/-- The register width of an operand width; none for 8 and 10 bytes, which name another register file (R33). -/
def Width.toReg? : Width → Option RegWidth
  | .one => some .one
  | .two => some .two
  | .four => some .four
  | .eight => none
  | .ten => none

/-- Whether the handler declares an operand input, output or both (R262). -/
inductive Direction where
  | input
  | output
  | inout
  deriving DecidableEq, Repr

/-- "read the current value only if the semantic handler declares the operand as input-or-inout" (R262). -/
def Direction.reads : Direction → Bool
  | .input => true
  | .output => false
  | .inout => true

/-- An output or inout operand is written back (R262). -/
def Direction.writes : Direction → Bool
  | .input => false
  | .output => true
  | .inout => true

/-- What the descriptor allows in the r/m position (R33, R261). -/
inductive LocationKind where
  | registerOnly
  | memoryOnly
  | registerOrMemory
  deriving DecidableEq, Repr

/-- The r/m operand of a descriptor (R218, R261, R262; far pointers R68). -/
inductive RmOperand where
  | location (kind : LocationKind) (width : Width) (dir : Direction)
  | effectiveAddress
  | farPointer
  deriving DecidableEq, Repr

/-- The part of a descriptor that says what follows the opcode: the ModR/M mode tags of R90, and the memory-offset operand
of R219. `none` serves the tags None and RegisterCoded, whose register is a fixed one. -/
inductive Specifier where
  | none
  | memoryOffset (width : Width) (dir : Direction)
  | full (regWidth : RegWidth) (regDir : Direction) (rm : RmOperand)
  | onlyExtraDigit (rm : RmOperand)
  deriving DecidableEq, Repr

/-- A fixed, implicit or register-coded register operand (R90, R260). -/
structure FixedOperand where
  index : RegIdx
  width : RegWidth
  dir : Direction
  deriving DecidableEq, Repr

/-- An implicit operand in memory (a stack slot, a string element): "the instruction's own procedure forms (segment, offset) and
enters at the linear-address step" (D36), so the pair is an input (log 37). -/
structure ImplicitOperand where
  seg : Seg
  offset : Word
  width : Width
  dir : Direction
  deriving DecidableEq, Repr

/-- The procedure of one instruction in one size-mode slot: bytes of opcode, fixed registers, implicit memory operands,
specifier, and the widths of its immediates. -/
structure Descriptor where
  opcodeLen : Nat
  fixed : List FixedOperand
  implicit : List ImplicitOperand
  specifier : Specifier
  immediates : List RegWidth
  deriving DecidableEq, Repr

/-- A maintenance operation the handler itself causes (R263), with its argument (R250, R252, R254): "carried out for whoever
invokes it" (R285). -/
inductive MaintenanceOp where
  | writePdBase (v : Word)
  | flushCache
  | setA20 (enabled : Bool)
  deriving DecidableEq, Repr

/-- What the semantic handler does and leaves: the maintenance operations it causes, in order (R263), the values of the
operands it writes, the registers it changes itself, the flags word (R42, R262). A handler that writes IP is outside the
spec (R264). -/
structure HandlerAnswer where
  operations : List MaintenanceOp
  fixed : List Nat
  implicit : List Nat
  reg : Nat
  rm : Nat
  gprWrites : List (RegIdx × Word)
  flags : Word
  deriving DecidableEq, Repr

/-- The catalog's answer to the opcode bytes of the window: no entry after 1 to 3 bytes (R273), or an entry with the
specialized procedures of the four size-mode slots, absent where there is none (R37, R274), and the handler's answer. -/
inductive DispatchAnswer where
  | noEntry (examinedMinus1 : Fin 3)
  | entry (procedures : Vector (Option Descriptor) 4) (handler : HandlerAnswer)
  deriving DecidableEq, Repr

/-- The values handed to the handler (R259, R262), an unread operand absent. -/
structure OperandValues where
  fixed : List (Option Nat)
  implicit : List (Option Nat)
  reg : Option Nat
  rm : Option Nat
  immediates : List Nat
  deriving DecidableEq, Repr

end Sys2Proof.Machine
end

