-- ==== Sys2Proof/Machine/State.lean ====
section
/-! DEFINITION. The state of the block (10_state.md), what the surrounding machine can ask of it, the reasons a step can
stop, and the state after reset (R45). -/

namespace Sys2Proof.Machine

/-- Why a run ends in a fault (60_exceptions.md R272 to R275, R291). All three are terminal host-level errors. PageFault is
not among them: it is an event with payload after which the run goes on (R291), a next state with a signal in `out`. -/
inductive Fault where
  /-- "a memory-only operand was encoded with a register-direct ModR/M form" (R272): raised by the operand protocol.
  Safe: the state at the fault is not kept, and no step follows (log 11). -/
  | addressingFault
  /-- No catalog entry, with the 1 to 3 raw bytes examined (R273): raised by the dispatch cycle. Safe (log 11). -/
  | decodeFault (bytes : List Byte)
  /-- No procedure for the active size-mode slot, with the slot as diagnostic (R274): raised by the dispatch cycle.
  Safe (log 11). -/
  | unimplementedSize (slot : Nat)
  deriving DecidableEq, Repr

/-- Situations to which the spec gives no step (R278 and U6, U8 of 93_implementation_defined.md). All are safe: the model
stops where the hardware may go on. -/
inductive Refusal where
  /-- An instruction without a meaning yet: raised by `exec` alone. Safe. -/
  | notModelled (mnemonic : String)
  /-- An access beyond PHYS_SIZE (R67, R232): raised by every access of the backing store. Safe. -/
  | physOutOfRange
  /-- Instruction bytes beyond the window (R99): raised by whatever consumes bytes. Safe. -/
  | windowOverrun
  /-- `WritePdBase` of a value that is no multiple of 4096 (R251). Safe. -/
  | pdBaseMisaligned
  /-- A register-only r/m operand encoded as a memory form (U6): raised by the operand protocol. Safe. -/
  | registerOnlyMemoryForm
  /-- A far-pointer operand, whose split into accesses the spec leaves out (U8, R68): raised by the operand protocol.
  Safe. -/
  | farPointerSplit
  /-- A register location 8 or 10 bytes wide, in a register file "outside this spec" (R33): raised by the operand protocol.
  Safe. -/
  | otherRegisterFile
  /-- The byte at the cursor is no prefix though the request says so: a malformed request (log 13). Safe. -/
  | notAPrefix
  /-- No port operation has the requested code, or its arguments are ill formed: a malformed request (log 13). Safe. -/
  | noSuchCommand
  deriving DecidableEq, Repr

/-- The resolver's result: a register location, or segment, offset and linear address (R9, R214). -/
inductive Location where
  | register (index : RegIdx)
  | memory (seg : Seg) (offset linear : Word)
  deriving DecidableEq, Repr

/-- The answer or signal of the last operation: the block's output, which no operation reads (log 10). -/
inductive Output where
  | nothing
  /-- Result of a resolve, with the ModR/M `reg` field (R92). -/
  | location (loc : Location) (reg : RegIdx)
  /-- Result of `Translate` (R225). -/
  | physical (p : Word)
  /-- Result of `MemRead` or `FetchWindow`: n bytes as a little-endian number (R256, R258). -/
  | value (n v : Nat)
  /-- The values a completed CPU instruction handed to its handler (R262). -/
  | operands (values : OperandValues)
  /-- The PageFault signal with its payload (R270, R279). -/
  | pageFault (addr : Word) (kind : AccessKind)
  deriving DecidableEq, Repr

/-- A call of the video-memory handler: the physical address, and the width or the bytes (R74). -/
inductive VideoCall where
  | read (p : Word) (n : Nat)
  | write (p : Word) (bytes : List Byte)
  deriving DecidableEq, Repr

/-- What a request to run one instruction of the block gives: a port code with its arguments (R106), or the word that an
operand specifier or a prefix byte stands at the cursor of the window. -/
inductive Source where
  | command (code : BitVec 4) (args : PortArguments)
  | specifier
  | prefixByte
  deriving DecidableEq, Repr

/-- What the collaborators may do to the consumed state and to memory between two operations (R36, R37, R44, R304, U5, U9). -/
inductive CollaboratorWrite where
  | gpr (i : RegIdx) (v : Word)
  | segBase (seg : Seg) (v : Word)
  | ip (v : Word)
  | flags (v : Word)
  /-- The pending prefix state and the code segment's size defaults, as the collaborator presents them (U9, R37). -/
  | decodeContext (override : Option Seg) (defaultAddress32 defaultOperand32 address32 operand32 : Bool)
  /-- Load bytes into the backing store, ascending from physical address p (R304). -/
  | load (p : Word) (bytes : List Byte)
  deriving DecidableEq, Repr

/-- One thing the surrounding machine asks for (log 12). -/
inductive Request where
  /-- Run one instruction of the block, decoded from its source. -/
  | decode (source : Source)
  /-- Run one CPU instruction's dispatch cycle at CS:IP (R259 to R265). -/
  | cycle (answer : DispatchAnswer)
  /-- A write of a collaborator. -/
  | collaborator (w : CollaboratorWrite)
  deriving DecidableEq, Repr

structure State where
  /-- The implementation parameters; no step changes them (R6, R26, log 1). -/
  cfg : Config
  /-- Page-directory base, 0 when paging is disabled (R21, R22). -/
  pdBase : Word
  /-- A20-gate mask (R23). -/
  a20Mask : Word
  /-- Translation cache: page number and page base, page numbers strictly rising (R24). -/
  tcache : List (Nat × Word)
  /-- Page-table walks begun (R25). -/
  walkCount : Nat
  /-- The flat backing store: (physical address, byte), addresses strictly rising, no byte listed that an unlisted address
  reads as (R27, log 3). -/
  pmem : List Host.Cell
  /-- EAX, ECX, EDX, EBX, ESP, EBP, ESI, EDI (R30). -/
  gpr : Vector Word 8
  /-- The bases of ES, CS, SS, DS, FS, GS (R36). -/
  segBase : Vector Word 6
  /-- Instruction pointer (R40). -/
  ip : Word
  /-- Flags word (R30, R42; width PRESUMED, log 5). -/
  flags : Word
  /-- Size-mode bits of the current instruction (R37). -/
  addressSize32 : Bool
  operandSize32 : Bool
  /-- The code segment's defaults of the size-mode bits (R37, R265). -/
  defaultAddressSize32 : Bool
  defaultOperandSize32 : Bool
  /-- The fetch window, 16 bytes (R38). -/
  win : List Byte
  /-- Index of the next unconsumed byte of the window (R39). -/
  cursor : Nat
  /-- Pending segment override (R41). -/
  segOverride : Option Seg
  /-- What the surrounding machine has asked for, oldest first (the model's own, log 12). -/
  requests : List Request
  /-- Arguments of the port operation (the model's own, log 13). -/
  args : PortArguments
  /-- Output of the last operation (the model's own, log 10). -/
  out : Output
  /-- Calls of the video-memory handler, oldest first (the model's own, log 9). -/
  videoCalls : List VideoCall
  /-- Free values drawn so far (the model's own, log 8). -/
  freeIndex : Nat
  deriving DecidableEq, Repr

/-- The mask `SetA20` and reset give the gate (R23, R45, R254). -/
def a20MaskOf (enabled : Bool) : Word := if enabled then 0xFFFFFFFF else 0x000FFFFF

/-- The state after reset for the launch arguments: configuration, initial memory image, initial registers and decode
context (R45, U5). The owned state has the values of R45. -/
def State.launch (cfg : Config) (image : List Host.Cell) (gpr : Vector Word 8) (segBase : Vector Word 6) (ip flags : Word)
    (address32 operand32 : Bool) (win : List Byte) (requests : List Request) : State :=
  { cfg := cfg, pdBase := 0, a20Mask := a20MaskOf cfg.resetA20Enabled, tcache := [], walkCount := 0, pmem := image,
    gpr := gpr, segBase := segBase, ip := ip, flags := flags,
    addressSize32 := address32, operandSize32 := operand32,
    defaultAddressSize32 := address32, defaultOperandSize32 := operand32,
    win := win, cursor := 0, segOverride := none,
    requests := requests, args := .idle, out := .nothing, videoCalls := [], freeIndex := 0 }

/-- The machine right after reset (R45): the launch with default parameters and nothing loaded. Where R45 leaves a value
unspecified this state holds one of the model's: registers, bases, IP and size modes zero (DESIGN CHOICE, log 4), flags
0x00000002 (PRESUMED, log 5), the window zero (DESIGN CHOICE, log 6), memory unlisted (DESIGN CHOICE, log 3). Unsafe for
claims about this state; no statement rests on those values. -/
def State.reset : State :=
  State.launch Config.default [] (Vector.replicate 8 0) (Vector.replicate 6 0) 0 0x00000002 false false
    (List.replicate windowLen 0) []

end Sys2Proof.Machine
end

