-- ==== Sys2Proof/Machine/Memory.lean ====
section
/-! DEFINITION. The two sparse maps of the state as data: the backing store (10_state.md R27) and the translation cache
(R24), each a list with strictly rising keys; and byte order (20_memory.md R62). -/

namespace Sys2Proof.Machine

/-! ### Byte order -/

/-- The number n little-endian bytes stand for (R62, R66). -/
def leValue : List Byte → Nat
  | [] => 0
  | b :: bs => b.toNat + 256 * leValue bs

/-- The n low bytes of a number, least significant first: v[8i+7:8i] for i = 0 to n-1 (R66). -/
def leBytes : Nat → Nat → List Byte
  | 0, _ => []
  | n + 1, v => BitVec.ofNat 8 v :: leBytes n (v / 256)

/-! ### The backing store -/

/-- What an address that is not listed reads as. The contents of `pmem` at reset are a launch argument (R45), a list that
may hold any image; this byte stands for what the image does not list (DESIGN CHOICE, log 3, unsafe only for claims about a
state with no image loaded). -/
def unlistedByte : Byte := 0

/-- The byte at a physical address. -/
def Memory.read : List Host.Cell → Nat → Byte
  | [], _ => unlistedByte
  | (k, v) :: m, a => if k = a then v else Memory.read m a

/-- Write one byte, keeping the canonical form: writing the unlisted byte removes the entry. -/
def Memory.write : List Host.Cell → Nat → Byte → List Host.Cell
  | [], a, v => if v = unlistedByte then [] else [(a, v)]
  | (k, w) :: m, a, v =>
    if a < k then (if v = unlistedByte then (k, w) :: m else (a, v) :: (k, w) :: m)
    else if a = k then (if v = unlistedByte then m else (a, v) :: m)
    else (k, w) :: Memory.write m a v

/-- The n bytes at ascending addresses from `a` (R66). -/
def Memory.readBytes (m : List Host.Cell) (a : Nat) : Nat → List Byte
  | 0 => []
  | n + 1 => Memory.read m a :: Memory.readBytes m (a + 1) n

/-- Write bytes at ascending addresses from `a` (R66). -/
def Memory.writeBytes (m : List Host.Cell) (a : Nat) : List Byte → List Host.Cell
  | [] => m
  | b :: bs => Memory.writeBytes (Memory.write m a b) (a + 1) bs

/-- The canonical form from a lower bound: addresses strictly rising and below `size`, no entry equal to the unlisted byte. -/
def Memory.wfFrom (size : Nat) : Nat → List Host.Cell → Bool
  | _, [] => true
  | lo, (k, v) :: m => decide (lo ≤ k) && decide (k < size) && decide (v ≠ unlistedByte) && Memory.wfFrom size (k + 1) m

/-- The canonical form of a backing store of `size` bytes (R27). -/
def Memory.wf (size : Nat) (m : List Host.Cell) : Bool := Memory.wfFrom size 0 m

/-! ### The translation cache -/

/-- The page base cached for a page number (R24, R229). -/
def Tcache.find? : List (Nat × Word) → Nat → Option Word
  | [], _ => none
  | (k, b) :: t, key => if k = key then some b else Tcache.find? t key

/-- Add an entry, keeping page numbers strictly rising (R236). -/
def Tcache.insert : List (Nat × Word) → Nat → Word → List (Nat × Word)
  | [], key, base => [(key, base)]
  | (k, b) :: t, key, base =>
    if key < k then (key, base) :: (k, b) :: t
    else if key = k then (key, base) :: t
    else (k, b) :: Tcache.insert t key base

/-- The form of a translation cache from a lower bound: page numbers strictly rising and of 20 bits, bases with bits 11:0
zero (R24). -/
def Tcache.wfFrom : Nat → List (Nat × Word) → Bool
  | _, [] => true
  | lo, (k, b) :: t => decide (lo ≤ k) && decide (k < 2 ^ 20) && decide (b &&& 0xFFF#32 = 0#32) && Tcache.wfFrom (k + 1) t

/-- The form R24 gives the translation cache. -/
def Tcache.wf (t : List (Nat × Word)) : Bool := Tcache.wfFrom 0 t

end Sys2Proof.Machine
end

