-- ==== Sys2Proof/Machine/Ops.lean ====
section
/-! DEFINITION. The named operations of the block over its state: how an operation ends, raising PageFault, the window's
fetch primitives, the backing store and the VRAM window, Translate, memory access, window fetch (20_memory.md,
44_translate.md, 45_port_ops.md §2, 60_exceptions.md). -/

namespace Sys2Proof.Machine

/-- What a step or an instruction answers. -/
abbrev StepResult := Host.Outcome State Fault Refusal

/-! ### Named updates of the state -/

def State.setOut (s : State) (o : Output) : State := { s with out := o }

def State.setCursor (s : State) (c : Nat) : State := { s with cursor := c }

def State.setMem (s : State) (m : List Host.Cell) : State := { s with pmem := m }

/-- One walk more (R231). -/
def State.countWalk (s : State) : State := { s with walkCount := s.walkCount + 1 }

def State.setTcache (s : State) (t : List (Nat × Word)) : State := { s with tcache := t }

/-- The window filled and the cursor at its start (R258). -/
def State.setWindow (s : State) (w : List Byte) : State := { s with win := w, cursor := 0 }

/-- A call of the video-memory handler made (R74), after everything before it (R79). -/
def State.logVideo (s : State) (c : VideoCall) : State := { s with videoCalls := s.videoCalls ++ [c] }

/-- One free value drawn (log 8). -/
def State.drawFree (s : State) : State := { s with freeIndex := s.freeIndex + 1 }

/-! ### How an operation ends -/

/-- An operation of the block completes with a value, raises the PageFault signal in the state reached so far (R279, R280),
or gives the run no further step: a terminal fault (R291) or a refusal (R278). -/
inductive Res (α : Type) where
  | ok (a : α) (s : State)
  | pageFault (addr : Word) (kind : AccessKind) (s : State)
  | fault (f : Fault)
  | refused (r : Refusal)

/-- Sequence two operations: what stops the first stops the whole ("unwinds … immediately", R279). -/
def Res.bind {α β : Type} (r : Res α) (f : α → State → Res β) : Res β :=
  match r with
  | .ok a s => f a s
  | .pageFault addr kind s => .pageFault addr kind s
  | .fault x => .fault x
  | .refused x => .refused x

/-- TAKING THE ONE EXCEPTION THE SPEC DESCRIBES: "The block's whole part in fault entry is to stop and signal" (R279). The
payload goes to the exception-delivery collaborator through `out`; nothing is rolled back (R280), IP and the prefix state
stay (R281), no mode changes and no vector is taken. There is no return from it: "The block has no return-from-fault
operation" (R283). -/
def signalPageFault (addr : Word) (kind : AccessKind) (s : State) : State := s.setOut (.pageFault addr kind)

/-- The step an operation makes: `k` puts its result out. -/
def Res.toOutcome {α : Type} (r : Res α) (k : α → State → State) : StepResult :=
  match r with
  | .ok a s => .next (k a s)
  | .pageFault addr kind s => .next (signalPageFault addr kind s)
  | .fault x => .fault x
  | .refused x => .refused x

/-! ### Consuming instruction bytes (R98, R99) -/

/-- `fetch8()`: the byte at the cursor; beyond the window refused (R98, R99). -/
def fetch8 (s : State) : Res Byte :=
  match s.win[s.cursor]? with
  | some b => .ok b (s.setCursor (s.cursor + 1))
  | none => .refused .windowOverrun

/-- `fetch16()`, little-endian (R98). -/
def fetch16 (s : State) : Res (BitVec 16) :=
  (fetch8 s).bind fun b0 s => (fetch8 s).bind fun b1 s => .ok (le16 b0 b1) s

/-- `fetch32()`, little-endian (R98). -/
def fetch32 (s : State) : Res (BitVec 32) :=
  (fetch16 s).bind fun h0 s => (fetch16 s).bind fun h1 s => .ok (h1 ++ h0) s

/-- Consume `n` bytes whose values have been read already (R39, R99). -/
def skipBytes (n : Nat) (s : State) : Res Unit :=
  if s.cursor + n ≤ windowLen then .ok () (s.setCursor (s.cursor + n)) else .refused .windowOverrun

/-! ### The backing store and the VRAM window -/

/-- `PhysRead(p, n)`: raw bytes of the backing store, refused beyond PHYS_SIZE (R66, R67). -/
def physRead (p : Word) (n : Nat) (s : State) : Res (List Byte) :=
  if p.toNat + n ≤ s.cfg.physSize then .ok (Memory.readBytes s.pmem p.toNat n) s else .refused .physOutOfRange

/-- `PhysWrite(p, n, v)`, the value given as its n bytes (R66, R67). -/
def physWrite (p : Word) (bytes : List Byte) (s : State) : Res Unit :=
  if p.toNat + bytes.length ≤ s.cfg.physSize then .ok () (s.setMem (Memory.writeBytes s.pmem p.toNat bytes))
  else .refused .physOutOfRange

/-- `InVram(p)` (R71). -/
def inVram (c : Config) (p : Word) : Bool := decide (c.vramBase ≤ p.toNat) && decide (p.toNat < c.vramBase + c.vramSize)

/-- The n bytes of a fresh free value (log 8). -/
def freeBytes (draw n : Nat) : List Byte := (List.range n).map (Config.freeByte draw)

/-- `VideoRead(p, n)`: a call of the external handler, which may answer any bytes (R70, R74, U4): a FREE VALUE. -/
def videoRead (p : Word) (n : Nat) (s : State) : Res (List Byte) :=
  .ok (freeBytes s.freeIndex n) ((s.logVideo (.read p n)).drawFree)

/-- `VideoWrite(p, n, v)`: a call of the external handler (R74); the backing store is not touched (R72). -/
def videoWrite (p : Word) (bytes : List Byte) (s : State) : Res Unit := .ok () (s.logVideo (.write p bytes))

/-- The read at a translated address: the window's handler or the backing store (R72). -/
def loadBytes (p : Word) (n : Nat) (s : State) : Res (List Byte) :=
  if inVram s.cfg p then videoRead p n s else physRead p n s

/-- The write at a translated address: the window's handler or the backing store (R72). -/
def storeBytes (p : Word) (bytes : List Byte) (s : State) : Res Unit :=
  if inVram s.cfg p then videoWrite p bytes s else physWrite p bytes s

/-! ### Translate (44_translate.md) -/

/-- The page number L[31:12], the cache's key (R228). -/
def pageNumber (l : Word) : Nat := l.toNat / pageSize

/-- The page offset L[11:0] (R228). -/
def pageOffset (l : Word) : Word := l &&& 0xFFF#32

/-- L[31:22] (R230). -/
def dirIndex (l : Word) : Word := l >>> 22

/-- L[21:12] (R230). -/
def tableIndex (l : Word) : Word := (l >>> 12) &&& 0x3FF#32

/-- An entry's base, bits 31:12 (R234). -/
def entryBase (e : Word) : Word := e &&& 0xFFFFF000#32

/-- An entry's present bit, bit 0 (R233). -/
def entryPresent (e : Word) : Bool := e.getLsbD 0

/-- One read of a walk: four bytes, little-endian, straight from the backing store (R232). -/
def readEntry (addr : Word) (s : State) : Res Word :=
  (physRead addr 4 s).bind fun bytes s => .ok (BitVec.ofNat 32 (leValue bytes)) s

/-- The two-level walk of a cache miss, its start counted (R230 to R233, R236, R237). -/
def walk (l : Word) (kind : AccessKind) (s : State) : Res Word :=
  (readEntry (s.pdBase + dirIndex l * 4) s.countWalk).bind fun pde s =>
    if entryPresent pde then
      (readEntry (entryBase pde + tableIndex l * 4) s).bind fun pte s =>
        if entryPresent pte then
          .ok (entryBase pte ||| pageOffset l) (s.setTcache (Tcache.insert s.tcache (pageNumber l) (entryBase pte)))
        else .pageFault l kind s
    else .pageFault l kind s

/-- `Translate(L, kind)` (R225). -/
def translate (l : Word) (kind : AccessKind) (s : State) : Res Word :=
  if s.pdBase = 0 then .ok (l &&& s.a20Mask) s
  else
    match Tcache.find? s.tcache (pageNumber l) with
    | some base => .ok (base ||| pageOffset l) s
    | none => walk l kind s

/-! ### Memory access (45_port_ops.md §2) -/

/-- "An access of n bytes at linear address L straddles a page boundary iff (L & 0xFFF) + n > 0x1000" (R65). -/
def straddles (l : Word) (n : Nat) : Bool := decide (pageSize < (pageOffset l).toNat + n)

/-- The byte accesses of a straddling read, ascending, translation and access interleaved (R65, R256). -/
def readByteByByte (kind : AccessKind) : Nat → Word → State → Res (List Byte)
  | 0, _, s => .ok [] s
  | n + 1, l, s =>
    (translate l kind s).bind fun p s =>
      (loadBytes p 1 s).bind fun b s =>
        (readByteByByte kind n (l + 1) s).bind fun bs s => .ok (b ++ bs) s

/-- The byte accesses of a straddling write, ascending, translation and access interleaved (R65, R257). -/
def writeByteByByte : List Byte → Word → State → Res Unit
  | [], _, s => .ok () s
  | b :: bs, l, s =>
    (translate l .write s).bind fun p s =>
      (storeBytes p [b] s).bind fun _ s => writeByteByByte bs (l + 1) s

/-- `MemRead(L, n, kind)`, the value given as its n bytes (R256). -/
def memRead (l : Word) (n : Nat) (kind : AccessKind) (s : State) : Res (List Byte) :=
  if straddles l n then readByteByByte kind n l s
  else (translate l kind s).bind fun p s => loadBytes p n s

/-- `MemWrite(L, n, v)`, the value given as its n bytes (R257). -/
def memWrite (l : Word) (bytes : List Byte) (s : State) : Res Unit :=
  if straddles l bytes.length then writeByteByByte bytes l s
  else (translate l .write s).bind fun p s => storeBytes p bytes s

/-- `FetchWindow(L)`: sixteen bytes of kind InstructionFetch into the window, the cursor at its start (R258). A fetch that
faults leaves window and cursor as they were (log 30). -/
def fetchWindow (l : Word) (s : State) : Res (List Byte) :=
  (memRead l windowLen .instructionFetch s).bind fun bytes s => .ok bytes (s.setWindow bytes)

end Sys2Proof.Machine
end

