-- ==== Sys2Proof/Machine/Flags.lean ====
section
/-! DEFINITION. The flags word. "The block reads no flag and writes no flag … No operation of this spec has a flag side
effect" (10_state.md R42): there is no flag computation to model. The one change of the flags word is the semantic handler's,
whose result is an input (log 22). -/

namespace Sys2Proof.Machine

/-- "the handler is solely responsible for updating condition flags" (R42). -/
def State.setFlags (s : State) (v : Word) : State := { s with flags := v }

end Sys2Proof.Machine
end

