-- ==== Sys2Proof/Machine/Operands.lean ====
section
/-! DEFINITION. Register locations at their widths (10_state.md R30 to R33), segment selection and the linear address
(43_segment_linear.md), and the terms of the addressing forms (40_resolver16.md to 42_resolver32_sib.md). -/

namespace Sys2Proof.Machine

/-! ### The register file -/

/-- `GPR32[i]` (R30). -/
def State.gpr32 (s : State) (i : RegIdx) : Word := s.gpr.get i.toFin

/-- `GPR16[i] = GPR32[i][15:0]` (R31). -/
def State.gpr16 (s : State) (i : RegIdx) : BitVec 16 := (s.gpr32 i).extractLsb' 0 16

/-- `GPR8[i]`: the low byte of register i for i = 0 to 3, the second byte of register i - 4 for i = 4 to 7 (R32). -/
def State.gpr8 (s : State) (i : RegIdx) : Byte :=
  if i.toNat < 4 then (s.gpr32 i).extractLsb' 0 8 else (s.gpr32 (i - 4)).extractLsb' 8 8

/-- `GPR32[i] <- v` (R30). -/
def State.setGpr32 (s : State) (i : RegIdx) (v : Word) : State := { s with gpr := s.gpr.set i.toNat v (by have := i.isLt; omega) }

/-- "A 16-bit write to register i replaces bits 15:0 and leaves bits 31:16 unchanged" (R31). -/
def State.setGpr16 (s : State) (i : RegIdx) (v : BitVec 16) : State := s.setGpr32 i ((s.gpr32 i).extractLsb' 16 16 ++ v)

/-- "An 8-bit write changes only those eight bits" (R32). -/
def State.setGpr8 (s : State) (i : RegIdx) (v : Byte) : State :=
  if i.toNat < 4 then s.setGpr32 i ((s.gpr32 i).extractLsb' 8 24 ++ v)
  else
    let j := i - 4
    s.setGpr32 j ((s.gpr32 j).extractLsb' 16 16 ++ v ++ (s.gpr32 j).extractLsb' 0 8)

/-- Read `RegLoc(w, i)` (R33). -/
def readReg (w : RegWidth) (i : RegIdx) (s : State) : Nat :=
  match w with
  | .one => (s.gpr8 i).toNat
  | .two => (s.gpr16 i).toNat
  | .four => (s.gpr32 i).toNat

/-- Write `RegLoc(w, i)` (R33). -/
def writeReg (w : RegWidth) (i : RegIdx) (v : Nat) (s : State) : State :=
  match w with
  | .one => s.setGpr8 i (BitVec.ofNat 8 v)
  | .two => s.setGpr16 i (BitVec.ofNat 16 v)
  | .four => s.setGpr32 i (BitVec.ofNat 32 v)

/-! ### Registers by name (R30) -/

def State.bx (s : State) : BitVec 16 := s.gpr16 3
def State.bp (s : State) : BitVec 16 := s.gpr16 5
def State.si (s : State) : BitVec 16 := s.gpr16 6
def State.di (s : State) : BitVec 16 := s.gpr16 7
def State.eax (s : State) : Word := s.gpr32 0
def State.ecx (s : State) : Word := s.gpr32 1
def State.edx (s : State) : Word := s.gpr32 2
def State.ebx (s : State) : Word := s.gpr32 3
def State.esp (s : State) : Word := s.gpr32 4
def State.ebp (s : State) : Word := s.gpr32 5
def State.esi (s : State) : Word := s.gpr32 6
def State.edi (s : State) : Word := s.gpr32 7

/-! ### Segments and the linear address -/

/-- Where a segment's base stands in the register file (R35). -/
def segIndex : Seg → Fin 6
  | .es => 0
  | .cs => 1
  | .ss => 2
  | .ds => 3
  | .fs => 4
  | .gs => 5

/-- `SegBase(s)` (R36). -/
def State.baseOf (s : State) (seg : Seg) : Word := s.segBase.get (segIndex seg)

def State.setSegBase (s : State) (seg : Seg) (v : Word) : State :=
  { s with segBase := s.segBase.set (segIndex seg).val v (segIndex seg).isLt }

/-- "seg = (segOverride != None) ? segOverride : defaultSeg" (R212). -/
def State.effectiveSeg (s : State) (dflt : Seg) : Seg := s.segOverride.getD dflt

/-- "linear = (SegBase(seg) + offset) mod 2^32" (R214). -/
def State.linear (s : State) (seg : Seg) (offset : Word) : Word := s.baseOf seg + offset

/-- The memory result of a form: segment, offset and linear address (R120, R150, R212, R214). -/
def State.memLocation (s : State) (dflt : Seg) (offset : Word) : Location :=
  .memory (s.effectiveSeg dflt) offset (s.linear (s.effectiveSeg dflt) offset)

/-- Default segment of a form whose base is ESP, the parameter ESP_BASE_DEFAULT_SEG (R6, R191). -/
def State.espSeg (s : State) : Seg :=
  match s.cfg.espBaseDefaultSeg with
  | .ss => .ss
  | .ds => .ds

/-! ### Terms of the addressing forms -/

/-- A 16-bit sum as the 32-bit offset: zero-extended (R120). -/
def zext16 (v : BitVec 16) : Word := v.setWidth 32

/-- A disp8 in a 16-bit sum: sign-extended (R97). -/
def sext8to16 (d : BitVec 8) : BitVec 16 := d.signExtend 16

/-- A disp8 in a 32-bit sum: sign-extended (R97). -/
def sext8to32 (d : BitVec 8) : Word := d.signExtend 32

/-- The index term: the register shifted left by `scale`, bits beyond bit 31 lost (R181). -/
def scaled (v : Word) (scale : BitVec 2) : Word := v <<< scale.toNat

/-- What an addressing form does once its location is known: it consumes its bytes and answers location and `reg` (R92,
R96, R99). -/
def completeForm (len : Nat) (loc : Location) (reg : RegIdx) (s : State) : StepResult :=
  (skipBytes len s).toOutcome fun _ t => t.setOut (.location loc reg)

end Sys2Proof.Machine
end

