-- ==== Sys2Proof/Machine/Forms16.lean ====
section
/-! DEFINITION. The 16-bit addressing forms, one meaning per row, from the form rules of 40_resolver16.md (R121 to R145).
Every sum is modulo 2^16 and zero-extended (R146); the segment is the default of the form or the pending override (R212). -/

namespace Sys2Proof.Machine

/-- [BX+SI] (R121). -/
def execA16M0Rm0 (reg : RegIdx) (s : State) : StepResult :=
  completeForm 1 (s.memLocation .ds (zext16 (s.bx + s.si))) reg s

/-- [BX+DI] (R122). -/
def execA16M0Rm1 (reg : RegIdx) (s : State) : StepResult :=
  completeForm 1 (s.memLocation .ds (zext16 (s.bx + s.di))) reg s

/-- [BP+SI] (R123). -/
def execA16M0Rm2 (reg : RegIdx) (s : State) : StepResult :=
  completeForm 1 (s.memLocation .ss (zext16 (s.bp + s.si))) reg s

/-- [BP+DI] (R124). -/
def execA16M0Rm3 (reg : RegIdx) (s : State) : StepResult :=
  completeForm 1 (s.memLocation .ss (zext16 (s.bp + s.di))) reg s

/-- [SI] (R125). -/
def execA16M0Rm4 (reg : RegIdx) (s : State) : StepResult :=
  completeForm 1 (s.memLocation .ds (zext16 (s.si))) reg s

/-- [DI] (R126). -/
def execA16M0Rm5 (reg : RegIdx) (s : State) : StepResult :=
  completeForm 1 (s.memLocation .ds (zext16 (s.di))) reg s

/-- [d16] (R127). -/
def execA16M0Rm6 (reg : RegIdx) (disp : BitVec 16) (s : State) : StepResult :=
  completeForm 3 (s.memLocation .ds (zext16 disp)) reg s

/-- [BX] (R128). -/
def execA16M0Rm7 (reg : RegIdx) (s : State) : StepResult :=
  completeForm 1 (s.memLocation .ds (zext16 (s.bx))) reg s

/-- [BX+SI+d8] (R129). -/
def execA16M1Rm0 (reg : RegIdx) (disp : BitVec 8) (s : State) : StepResult :=
  completeForm 2 (s.memLocation .ds (zext16 (s.bx + s.si + sext8to16 disp))) reg s

/-- [BX+DI+d8] (R130). -/
def execA16M1Rm1 (reg : RegIdx) (disp : BitVec 8) (s : State) : StepResult :=
  completeForm 2 (s.memLocation .ds (zext16 (s.bx + s.di + sext8to16 disp))) reg s

/-- [BP+SI+d8] (R131). -/
def execA16M1Rm2 (reg : RegIdx) (disp : BitVec 8) (s : State) : StepResult :=
  completeForm 2 (s.memLocation .ss (zext16 (s.bp + s.si + sext8to16 disp))) reg s

/-- [BP+DI+d8] (R132). -/
def execA16M1Rm3 (reg : RegIdx) (disp : BitVec 8) (s : State) : StepResult :=
  completeForm 2 (s.memLocation .ss (zext16 (s.bp + s.di + sext8to16 disp))) reg s

/-- [SI+d8] (R133). -/
def execA16M1Rm4 (reg : RegIdx) (disp : BitVec 8) (s : State) : StepResult :=
  completeForm 2 (s.memLocation .ds (zext16 (s.si + sext8to16 disp))) reg s

/-- [DI+d8] (R134). -/
def execA16M1Rm5 (reg : RegIdx) (disp : BitVec 8) (s : State) : StepResult :=
  completeForm 2 (s.memLocation .ds (zext16 (s.di + sext8to16 disp))) reg s

/-- [BP+d8] (R135). -/
def execA16M1Rm6 (reg : RegIdx) (disp : BitVec 8) (s : State) : StepResult :=
  completeForm 2 (s.memLocation .ss (zext16 (s.bp + sext8to16 disp))) reg s

/-- [BX+d8] (R136). -/
def execA16M1Rm7 (reg : RegIdx) (disp : BitVec 8) (s : State) : StepResult :=
  completeForm 2 (s.memLocation .ds (zext16 (s.bx + sext8to16 disp))) reg s

/-- [BX+SI+d16] (R137). -/
def execA16M2Rm0 (reg : RegIdx) (disp : BitVec 16) (s : State) : StepResult :=
  completeForm 3 (s.memLocation .ds (zext16 (s.bx + s.si + disp))) reg s

/-- [BX+DI+d16] (R138). -/
def execA16M2Rm1 (reg : RegIdx) (disp : BitVec 16) (s : State) : StepResult :=
  completeForm 3 (s.memLocation .ds (zext16 (s.bx + s.di + disp))) reg s

/-- [BP+SI+d16] (R139). -/
def execA16M2Rm2 (reg : RegIdx) (disp : BitVec 16) (s : State) : StepResult :=
  completeForm 3 (s.memLocation .ss (zext16 (s.bp + s.si + disp))) reg s

/-- [BP+DI+d16] (R140). -/
def execA16M2Rm3 (reg : RegIdx) (disp : BitVec 16) (s : State) : StepResult :=
  completeForm 3 (s.memLocation .ss (zext16 (s.bp + s.di + disp))) reg s

/-- [SI+d16] (R141). -/
def execA16M2Rm4 (reg : RegIdx) (disp : BitVec 16) (s : State) : StepResult :=
  completeForm 3 (s.memLocation .ds (zext16 (s.si + disp))) reg s

/-- [DI+d16] (R142). -/
def execA16M2Rm5 (reg : RegIdx) (disp : BitVec 16) (s : State) : StepResult :=
  completeForm 3 (s.memLocation .ds (zext16 (s.di + disp))) reg s

/-- [BP+d16] (R143). -/
def execA16M2Rm6 (reg : RegIdx) (disp : BitVec 16) (s : State) : StepResult :=
  completeForm 3 (s.memLocation .ss (zext16 (s.bp + disp))) reg s

/-- [BX+d16] (R144). -/
def execA16M2Rm7 (reg : RegIdx) (disp : BitVec 16) (s : State) : StepResult :=
  completeForm 3 (s.memLocation .ds (zext16 (s.bx + disp))) reg s

/-- The register form: register location `rm`, no segment, the override ignored (R145, R213). -/
def execA16Reg (reg rm : RegIdx) (s : State) : StepResult :=
  completeForm 1 (.register rm) reg s

end Sys2Proof.Machine
end

