-- ==== Sys2Proof/Machine/Resolver.lean ====
section
/-! DEFINITION. `Resolve` as the spec's three algorithms state it: 40_resolver16.md R120, 41_resolver32.md R150,
42_resolver32_sib.md R180. The meanings of the single forms stand in Forms16, Forms32 and FormsSib, written from the form
rules. -/

namespace Sys2Proof.Machine

/-- Sum and default segment of the 16-bit base/index combination `rm` (R120's case table). -/
def baseIndex16 (rm : RegIdx) (s : State) : BitVec 16 × Seg :=
  match rm.toNat with
  | 0 => (s.bx + s.si, .ds)
  | 1 => (s.bx + s.di, .ds)
  | 2 => (s.bp + s.si, .ss)
  | 3 => (s.bp + s.di, .ss)
  | 4 => (s.si, .ds)
  | 5 => (s.di, .ds)
  | 6 => (s.bp, .ss)
  | _ => (s.bx, .ds)

/-- Add the displacement of `mod` to a 16-bit sum (R94, R120). -/
def addDisp16 (mod : BitVec 2) (sum : BitVec 16) (s : State) : Res (BitVec 16) :=
  if mod = 1 then (fetch8 s).bind fun d s => .ok (sum + sext8to16 d) s
  else if mod = 2 then (fetch16 s).bind fun d s => .ok (sum + d) s
  else .ok sum s

/-- `Resolve` in 16-bit address mode (R120). -/
def resolve16 (s : State) : Res (Location × RegIdx) :=
  (fetch8 s).bind fun modrm s =>
    let mod := modOf modrm
    let reg := regOf modrm
    let rm := rmOf modrm
    if mod = 3 then .ok (.register rm, reg) s
    else if mod = 0 ∧ rm = 6 then (fetch16 s).bind fun d s => .ok (s.memLocation .ds (zext16 d), reg) s
    else
      let term := baseIndex16 rm s
      (addDisp16 mod term.1 s).bind fun sum s => .ok (s.memLocation term.2 (zext16 sum), reg) s

/-- Default segment of a form whose base is register `base` (R191, R211): SS for EBP, the parameter for ESP, else DS. -/
def sibBaseSeg (base : RegIdx) (s : State) : Seg :=
  if base = 5 then .ss else if base = 4 then s.espSeg else .ds

/-- The index term of a SIB byte: nothing for index = 4 (R181). -/
def indexTerm (index : RegIdx) (scale : BitVec 2) (s : State) : Word :=
  if index = 4 then 0 else scaled (s.gpr32 index) scale

/-- `ResolveSib(mod)`: base term plus index term, and the default segment (R180, R182, R191). -/
def resolveSib (mod : BitVec 2) (s : State) : Res (Word × Seg) :=
  (fetch8 s).bind fun sib s =>
    let idx := indexTerm (indexOf sib) (scaleOf sib) s
    let base := baseOf sib
    if base = 5 ∧ mod = 0 then (fetch32 s).bind fun d s => .ok (d + idx, .ds) s
    else .ok (s.gpr32 base + idx, sibBaseSeg base s) s

/-- Add the displacement of `mod` to a 32-bit sum (R95, R150). -/
def addDisp32 (mod : BitVec 2) (sum : Word) (s : State) : Res Word :=
  if mod = 1 then (fetch8 s).bind fun d s => .ok (sum + sext8to32 d) s
  else if mod = 2 then (fetch32 s).bind fun d s => .ok (sum + d) s
  else .ok sum s

/-- What follows the ModR/M byte of a SIB escape: SIB byte, displacement, location (R150, R173). -/
def resolveEscape (mod : BitVec 2) (reg : RegIdx) (s : State) : Res (Location × RegIdx) :=
  (resolveSib mod s).bind fun term s =>
    (addDisp32 mod term.1 s).bind fun sum s => .ok (s.memLocation term.2 sum, reg) s

/-- `Resolve` in 32-bit address mode (R150). -/
def resolve32 (s : State) : Res (Location × RegIdx) :=
  (fetch8 s).bind fun modrm s =>
    let mod := modOf modrm
    let reg := regOf modrm
    let rm := rmOf modrm
    if mod = 3 then .ok (.register rm, reg) s
    else if rm = 4 then resolveEscape mod reg s
    else if mod = 0 ∧ rm = 5 then (fetch32 s).bind fun d s => .ok (s.memLocation .ds d, reg) s
    else
      (addDisp32 mod (s.gpr32 rm) s).bind fun sum s =>
        .ok (s.memLocation (if rm = 5 then .ss else .ds) sum, reg) s

/-- `Resolve`, in the current address size (R100, R106). -/
def resolve (s : State) : Res (Location × RegIdx) :=
  if s.addressSize32 then resolve32 s else resolve16 s

/-- A resolve's answer as the step of an instruction. -/
def answerLocation (r : Res (Location × RegIdx)) : StepResult :=
  r.toOutcome fun a s => s.setOut (.location a.1 a.2)

end Sys2Proof.Machine
end

