-- ==== Sys2Proof/Machine/Forms32.lean ====
section
/-! DEFINITION. The 32-bit addressing forms without SIB, one meaning per row, from the form rules of 41_resolver32.md (R151 to R172),
and the SIB escapes (R173). -/

namespace Sys2Proof.Machine

/-- [EAX] (R151). -/
def execA32M0Rm0 (reg : RegIdx) (s : State) : StepResult :=
  completeForm 1 (s.memLocation .ds s.eax) reg s

/-- [ECX] (R152). -/
def execA32M0Rm1 (reg : RegIdx) (s : State) : StepResult :=
  completeForm 1 (s.memLocation .ds s.ecx) reg s

/-- [EDX] (R153). -/
def execA32M0Rm2 (reg : RegIdx) (s : State) : StepResult :=
  completeForm 1 (s.memLocation .ds s.edx) reg s

/-- [EBX] (R154). -/
def execA32M0Rm3 (reg : RegIdx) (s : State) : StepResult :=
  completeForm 1 (s.memLocation .ds s.ebx) reg s

/-- [d32] (R155). -/
def execA32M0Rm5 (reg : RegIdx) (disp : BitVec 32) (s : State) : StepResult :=
  completeForm 5 (s.memLocation .ds disp) reg s

/-- [ESI] (R156). -/
def execA32M0Rm6 (reg : RegIdx) (s : State) : StepResult :=
  completeForm 1 (s.memLocation .ds s.esi) reg s

/-- [EDI] (R157). -/
def execA32M0Rm7 (reg : RegIdx) (s : State) : StepResult :=
  completeForm 1 (s.memLocation .ds s.edi) reg s

/-- [EAX+d8] (R158). -/
def execA32M1Rm0 (reg : RegIdx) (disp : BitVec 8) (s : State) : StepResult :=
  completeForm 2 (s.memLocation .ds (s.eax + sext8to32 disp)) reg s

/-- [ECX+d8] (R159). -/
def execA32M1Rm1 (reg : RegIdx) (disp : BitVec 8) (s : State) : StepResult :=
  completeForm 2 (s.memLocation .ds (s.ecx + sext8to32 disp)) reg s

/-- [EDX+d8] (R160). -/
def execA32M1Rm2 (reg : RegIdx) (disp : BitVec 8) (s : State) : StepResult :=
  completeForm 2 (s.memLocation .ds (s.edx + sext8to32 disp)) reg s

/-- [EBX+d8] (R161). -/
def execA32M1Rm3 (reg : RegIdx) (disp : BitVec 8) (s : State) : StepResult :=
  completeForm 2 (s.memLocation .ds (s.ebx + sext8to32 disp)) reg s

/-- [EBP+d8] (R162). -/
def execA32M1Rm5 (reg : RegIdx) (disp : BitVec 8) (s : State) : StepResult :=
  completeForm 2 (s.memLocation .ss (s.ebp + sext8to32 disp)) reg s

/-- [ESI+d8] (R163). -/
def execA32M1Rm6 (reg : RegIdx) (disp : BitVec 8) (s : State) : StepResult :=
  completeForm 2 (s.memLocation .ds (s.esi + sext8to32 disp)) reg s

/-- [EDI+d8] (R164). -/
def execA32M1Rm7 (reg : RegIdx) (disp : BitVec 8) (s : State) : StepResult :=
  completeForm 2 (s.memLocation .ds (s.edi + sext8to32 disp)) reg s

/-- [EAX+d32] (R165). -/
def execA32M2Rm0 (reg : RegIdx) (disp : BitVec 32) (s : State) : StepResult :=
  completeForm 5 (s.memLocation .ds (s.eax + disp)) reg s

/-- [ECX+d32] (R166). -/
def execA32M2Rm1 (reg : RegIdx) (disp : BitVec 32) (s : State) : StepResult :=
  completeForm 5 (s.memLocation .ds (s.ecx + disp)) reg s

/-- [EDX+d32] (R167). -/
def execA32M2Rm2 (reg : RegIdx) (disp : BitVec 32) (s : State) : StepResult :=
  completeForm 5 (s.memLocation .ds (s.edx + disp)) reg s

/-- [EBX+d32] (R168). -/
def execA32M2Rm3 (reg : RegIdx) (disp : BitVec 32) (s : State) : StepResult :=
  completeForm 5 (s.memLocation .ds (s.ebx + disp)) reg s

/-- [EBP+d32] (R169). -/
def execA32M2Rm5 (reg : RegIdx) (disp : BitVec 32) (s : State) : StepResult :=
  completeForm 5 (s.memLocation .ss (s.ebp + disp)) reg s

/-- [ESI+d32] (R170). -/
def execA32M2Rm6 (reg : RegIdx) (disp : BitVec 32) (s : State) : StepResult :=
  completeForm 5 (s.memLocation .ds (s.esi + disp)) reg s

/-- [EDI+d32] (R171). -/
def execA32M2Rm7 (reg : RegIdx) (disp : BitVec 32) (s : State) : StepResult :=
  completeForm 5 (s.memLocation .ds (s.edi + disp)) reg s

/-- The register form, also for rm = 4: register location `rm` (R172). -/
def execA32Reg (reg rm : RegIdx) (s : State) : StepResult :=
  completeForm 1 (.register rm) reg s

/-- The SIB escape with mod = 0: after its ModR/M byte the next byte of the stream is the SIB byte, and the form is completed
by R180 to R190 (R173, log 16). -/
def execA32SibM0 (reg : RegIdx) (s : State) : StepResult :=
  answerLocation ((skipBytes 1 s).bind fun _ t => resolveEscape 0 reg t)

/-- The SIB escape with mod = 1: after its ModR/M byte the next byte of the stream is the SIB byte, and the form is completed
by R180 to R190 (R173, log 16). -/
def execA32SibM1 (reg : RegIdx) (s : State) : StepResult :=
  answerLocation ((skipBytes 1 s).bind fun _ t => resolveEscape 1 reg t)

/-- The SIB escape with mod = 2: after its ModR/M byte the next byte of the stream is the SIB byte, and the form is completed
by R180 to R190 (R173, log 16). -/
def execA32SibM2 (reg : RegIdx) (s : State) : StepResult :=
  answerLocation ((skipBytes 1 s).bind fun _ t => resolveEscape 2 reg t)

end Sys2Proof.Machine
end

