-- ==== Sys2Proof/Machine/FormsSib.lean ====
section
/-! DEFINITION. The 32-bit addressing forms with a SIB byte, one meaning per row, from the class rules of 42_resolver32_sib.md (R183 to
R190). The default segment is SS for base EBP, the parameter for base ESP, DS otherwise and without base (R191); `scale` is
ignored without an index (R192). -/

namespace Sys2Proof.Machine

/-- [EAX+EAX*2^scale] (R184). -/
def execA32SibM0B0I0 (reg : RegIdx) (scale : BitVec 2) (s : State) : StepResult :=
  completeForm 2 (s.memLocation .ds (s.eax + scaled s.eax scale)) reg s

/-- [EAX+ECX*2^scale] (R184). -/
def execA32SibM0B0I1 (reg : RegIdx) (scale : BitVec 2) (s : State) : StepResult :=
  completeForm 2 (s.memLocation .ds (s.eax + scaled s.ecx scale)) reg s

/-- [EAX+EDX*2^scale] (R184). -/
def execA32SibM0B0I2 (reg : RegIdx) (scale : BitVec 2) (s : State) : StepResult :=
  completeForm 2 (s.memLocation .ds (s.eax + scaled s.edx scale)) reg s

/-- [EAX+EBX*2^scale] (R184). -/
def execA32SibM0B0I3 (reg : RegIdx) (scale : BitVec 2) (s : State) : StepResult :=
  completeForm 2 (s.memLocation .ds (s.eax + scaled s.ebx scale)) reg s

/-- [EAX] (R183). -/
def execA32SibM0B0I4 (reg : RegIdx) (_scale : BitVec 2) (s : State) : StepResult :=
  completeForm 2 (s.memLocation .ds s.eax) reg s

/-- [EAX+EBP*2^scale] (R184). -/
def execA32SibM0B0I5 (reg : RegIdx) (scale : BitVec 2) (s : State) : StepResult :=
  completeForm 2 (s.memLocation .ds (s.eax + scaled s.ebp scale)) reg s

/-- [EAX+ESI*2^scale] (R184). -/
def execA32SibM0B0I6 (reg : RegIdx) (scale : BitVec 2) (s : State) : StepResult :=
  completeForm 2 (s.memLocation .ds (s.eax + scaled s.esi scale)) reg s

/-- [EAX+EDI*2^scale] (R184). -/
def execA32SibM0B0I7 (reg : RegIdx) (scale : BitVec 2) (s : State) : StepResult :=
  completeForm 2 (s.memLocation .ds (s.eax + scaled s.edi scale)) reg s

/-- [ECX+EAX*2^scale] (R184). -/
def execA32SibM0B1I0 (reg : RegIdx) (scale : BitVec 2) (s : State) : StepResult :=
  completeForm 2 (s.memLocation .ds (s.ecx + scaled s.eax scale)) reg s

/-- [ECX+ECX*2^scale] (R184). -/
def execA32SibM0B1I1 (reg : RegIdx) (scale : BitVec 2) (s : State) : StepResult :=
  completeForm 2 (s.memLocation .ds (s.ecx + scaled s.ecx scale)) reg s

/-- [ECX+EDX*2^scale] (R184). -/
def execA32SibM0B1I2 (reg : RegIdx) (scale : BitVec 2) (s : State) : StepResult :=
  completeForm 2 (s.memLocation .ds (s.ecx + scaled s.edx scale)) reg s

/-- [ECX+EBX*2^scale] (R184). -/
def execA32SibM0B1I3 (reg : RegIdx) (scale : BitVec 2) (s : State) : StepResult :=
  completeForm 2 (s.memLocation .ds (s.ecx + scaled s.ebx scale)) reg s

/-- [ECX] (R183). -/
def execA32SibM0B1I4 (reg : RegIdx) (_scale : BitVec 2) (s : State) : StepResult :=
  completeForm 2 (s.memLocation .ds s.ecx) reg s

/-- [ECX+EBP*2^scale] (R184). -/
def execA32SibM0B1I5 (reg : RegIdx) (scale : BitVec 2) (s : State) : StepResult :=
  completeForm 2 (s.memLocation .ds (s.ecx + scaled s.ebp scale)) reg s

/-- [ECX+ESI*2^scale] (R184). -/
def execA32SibM0B1I6 (reg : RegIdx) (scale : BitVec 2) (s : State) : StepResult :=
  completeForm 2 (s.memLocation .ds (s.ecx + scaled s.esi scale)) reg s

/-- [ECX+EDI*2^scale] (R184). -/
def execA32SibM0B1I7 (reg : RegIdx) (scale : BitVec 2) (s : State) : StepResult :=
  completeForm 2 (s.memLocation .ds (s.ecx + scaled s.edi scale)) reg s

/-- [EDX+EAX*2^scale] (R184). -/
def execA32SibM0B2I0 (reg : RegIdx) (scale : BitVec 2) (s : State) : StepResult :=
  completeForm 2 (s.memLocation .ds (s.edx + scaled s.eax scale)) reg s

/-- [EDX+ECX*2^scale] (R184). -/
def execA32SibM0B2I1 (reg : RegIdx) (scale : BitVec 2) (s : State) : StepResult :=
  completeForm 2 (s.memLocation .ds (s.edx + scaled s.ecx scale)) reg s

/-- [EDX+EDX*2^scale] (R184). -/
def execA32SibM0B2I2 (reg : RegIdx) (scale : BitVec 2) (s : State) : StepResult :=
  completeForm 2 (s.memLocation .ds (s.edx + scaled s.edx scale)) reg s

/-- [EDX+EBX*2^scale] (R184). -/
def execA32SibM0B2I3 (reg : RegIdx) (scale : BitVec 2) (s : State) : StepResult :=
  completeForm 2 (s.memLocation .ds (s.edx + scaled s.ebx scale)) reg s

/-- [EDX] (R183). -/
def execA32SibM0B2I4 (reg : RegIdx) (_scale : BitVec 2) (s : State) : StepResult :=
  completeForm 2 (s.memLocation .ds s.edx) reg s

/-- [EDX+EBP*2^scale] (R184). -/
def execA32SibM0B2I5 (reg : RegIdx) (scale : BitVec 2) (s : State) : StepResult :=
  completeForm 2 (s.memLocation .ds (s.edx + scaled s.ebp scale)) reg s

/-- [EDX+ESI*2^scale] (R184). -/
def execA32SibM0B2I6 (reg : RegIdx) (scale : BitVec 2) (s : State) : StepResult :=
  completeForm 2 (s.memLocation .ds (s.edx + scaled s.esi scale)) reg s

/-- [EDX+EDI*2^scale] (R184). -/
def execA32SibM0B2I7 (reg : RegIdx) (scale : BitVec 2) (s : State) : StepResult :=
  completeForm 2 (s.memLocation .ds (s.edx + scaled s.edi scale)) reg s

/-- [EBX+EAX*2^scale] (R184). -/
def execA32SibM0B3I0 (reg : RegIdx) (scale : BitVec 2) (s : State) : StepResult :=
  completeForm 2 (s.memLocation .ds (s.ebx + scaled s.eax scale)) reg s

/-- [EBX+ECX*2^scale] (R184). -/
def execA32SibM0B3I1 (reg : RegIdx) (scale : BitVec 2) (s : State) : StepResult :=
  completeForm 2 (s.memLocation .ds (s.ebx + scaled s.ecx scale)) reg s

/-- [EBX+EDX*2^scale] (R184). -/
def execA32SibM0B3I2 (reg : RegIdx) (scale : BitVec 2) (s : State) : StepResult :=
  completeForm 2 (s.memLocation .ds (s.ebx + scaled s.edx scale)) reg s

/-- [EBX+EBX*2^scale] (R184). -/
def execA32SibM0B3I3 (reg : RegIdx) (scale : BitVec 2) (s : State) : StepResult :=
  completeForm 2 (s.memLocation .ds (s.ebx + scaled s.ebx scale)) reg s

/-- [EBX] (R183). -/
def execA32SibM0B3I4 (reg : RegIdx) (_scale : BitVec 2) (s : State) : StepResult :=
  completeForm 2 (s.memLocation .ds s.ebx) reg s

/-- [EBX+EBP*2^scale] (R184). -/
def execA32SibM0B3I5 (reg : RegIdx) (scale : BitVec 2) (s : State) : StepResult :=
  completeForm 2 (s.memLocation .ds (s.ebx + scaled s.ebp scale)) reg s

/-- [EBX+ESI*2^scale] (R184). -/
def execA32SibM0B3I6 (reg : RegIdx) (scale : BitVec 2) (s : State) : StepResult :=
  completeForm 2 (s.memLocation .ds (s.ebx + scaled s.esi scale)) reg s

/-- [EBX+EDI*2^scale] (R184). -/
def execA32SibM0B3I7 (reg : RegIdx) (scale : BitVec 2) (s : State) : StepResult :=
  completeForm 2 (s.memLocation .ds (s.ebx + scaled s.edi scale)) reg s

/-- [ESP+EAX*2^scale] (R184). -/
def execA32SibM0B4I0 (reg : RegIdx) (scale : BitVec 2) (s : State) : StepResult :=
  completeForm 2 (s.memLocation s.espSeg (s.esp + scaled s.eax scale)) reg s

/-- [ESP+ECX*2^scale] (R184). -/
def execA32SibM0B4I1 (reg : RegIdx) (scale : BitVec 2) (s : State) : StepResult :=
  completeForm 2 (s.memLocation s.espSeg (s.esp + scaled s.ecx scale)) reg s

/-- [ESP+EDX*2^scale] (R184). -/
def execA32SibM0B4I2 (reg : RegIdx) (scale : BitVec 2) (s : State) : StepResult :=
  completeForm 2 (s.memLocation s.espSeg (s.esp + scaled s.edx scale)) reg s

/-- [ESP+EBX*2^scale] (R184). -/
def execA32SibM0B4I3 (reg : RegIdx) (scale : BitVec 2) (s : State) : StepResult :=
  completeForm 2 (s.memLocation s.espSeg (s.esp + scaled s.ebx scale)) reg s

/-- [ESP] (R183). -/
def execA32SibM0B4I4 (reg : RegIdx) (_scale : BitVec 2) (s : State) : StepResult :=
  completeForm 2 (s.memLocation s.espSeg s.esp) reg s

/-- [ESP+EBP*2^scale] (R184). -/
def execA32SibM0B4I5 (reg : RegIdx) (scale : BitVec 2) (s : State) : StepResult :=
  completeForm 2 (s.memLocation s.espSeg (s.esp + scaled s.ebp scale)) reg s

/-- [ESP+ESI*2^scale] (R184). -/
def execA32SibM0B4I6 (reg : RegIdx) (scale : BitVec 2) (s : State) : StepResult :=
  completeForm 2 (s.memLocation s.espSeg (s.esp + scaled s.esi scale)) reg s

/-- [ESP+EDI*2^scale] (R184). -/
def execA32SibM0B4I7 (reg : RegIdx) (scale : BitVec 2) (s : State) : StepResult :=
  completeForm 2 (s.memLocation s.espSeg (s.esp + scaled s.edi scale)) reg s

/-- [EAX*2^scale+d32] (R186). -/
def execA32SibM0B5I0 (reg : RegIdx) (scale : BitVec 2) (disp : BitVec 32) (s : State) : StepResult :=
  completeForm 6 (s.memLocation .ds (disp + scaled s.eax scale)) reg s

/-- [ECX*2^scale+d32] (R186). -/
def execA32SibM0B5I1 (reg : RegIdx) (scale : BitVec 2) (disp : BitVec 32) (s : State) : StepResult :=
  completeForm 6 (s.memLocation .ds (disp + scaled s.ecx scale)) reg s

/-- [EDX*2^scale+d32] (R186). -/
def execA32SibM0B5I2 (reg : RegIdx) (scale : BitVec 2) (disp : BitVec 32) (s : State) : StepResult :=
  completeForm 6 (s.memLocation .ds (disp + scaled s.edx scale)) reg s

/-- [EBX*2^scale+d32] (R186). -/
def execA32SibM0B5I3 (reg : RegIdx) (scale : BitVec 2) (disp : BitVec 32) (s : State) : StepResult :=
  completeForm 6 (s.memLocation .ds (disp + scaled s.ebx scale)) reg s

/-- [d32] (R185). -/
def execA32SibM0B5I4 (reg : RegIdx) (_scale : BitVec 2) (disp : BitVec 32) (s : State) : StepResult :=
  completeForm 6 (s.memLocation .ds disp) reg s

/-- [EBP*2^scale+d32] (R186). -/
def execA32SibM0B5I5 (reg : RegIdx) (scale : BitVec 2) (disp : BitVec 32) (s : State) : StepResult :=
  completeForm 6 (s.memLocation .ds (disp + scaled s.ebp scale)) reg s

/-- [ESI*2^scale+d32] (R186). -/
def execA32SibM0B5I6 (reg : RegIdx) (scale : BitVec 2) (disp : BitVec 32) (s : State) : StepResult :=
  completeForm 6 (s.memLocation .ds (disp + scaled s.esi scale)) reg s

/-- [EDI*2^scale+d32] (R186). -/
def execA32SibM0B5I7 (reg : RegIdx) (scale : BitVec 2) (disp : BitVec 32) (s : State) : StepResult :=
  completeForm 6 (s.memLocation .ds (disp + scaled s.edi scale)) reg s

/-- [ESI+EAX*2^scale] (R184). -/
def execA32SibM0B6I0 (reg : RegIdx) (scale : BitVec 2) (s : State) : StepResult :=
  completeForm 2 (s.memLocation .ds (s.esi + scaled s.eax scale)) reg s

/-- [ESI+ECX*2^scale] (R184). -/
def execA32SibM0B6I1 (reg : RegIdx) (scale : BitVec 2) (s : State) : StepResult :=
  completeForm 2 (s.memLocation .ds (s.esi + scaled s.ecx scale)) reg s

/-- [ESI+EDX*2^scale] (R184). -/
def execA32SibM0B6I2 (reg : RegIdx) (scale : BitVec 2) (s : State) : StepResult :=
  completeForm 2 (s.memLocation .ds (s.esi + scaled s.edx scale)) reg s

/-- [ESI+EBX*2^scale] (R184). -/
def execA32SibM0B6I3 (reg : RegIdx) (scale : BitVec 2) (s : State) : StepResult :=
  completeForm 2 (s.memLocation .ds (s.esi + scaled s.ebx scale)) reg s

/-- [ESI] (R183). -/
def execA32SibM0B6I4 (reg : RegIdx) (_scale : BitVec 2) (s : State) : StepResult :=
  completeForm 2 (s.memLocation .ds s.esi) reg s

/-- [ESI+EBP*2^scale] (R184). -/
def execA32SibM0B6I5 (reg : RegIdx) (scale : BitVec 2) (s : State) : StepResult :=
  completeForm 2 (s.memLocation .ds (s.esi + scaled s.ebp scale)) reg s

/-- [ESI+ESI*2^scale] (R184). -/
def execA32SibM0B6I6 (reg : RegIdx) (scale : BitVec 2) (s : State) : StepResult :=
  completeForm 2 (s.memLocation .ds (s.esi + scaled s.esi scale)) reg s

/-- [ESI+EDI*2^scale] (R184). -/
def execA32SibM0B6I7 (reg : RegIdx) (scale : BitVec 2) (s : State) : StepResult :=
  completeForm 2 (s.memLocation .ds (s.esi + scaled s.edi scale)) reg s

/-- [EDI+EAX*2^scale] (R184). -/
def execA32SibM0B7I0 (reg : RegIdx) (scale : BitVec 2) (s : State) : StepResult :=
  completeForm 2 (s.memLocation .ds (s.edi + scaled s.eax scale)) reg s

/-- [EDI+ECX*2^scale] (R184). -/
def execA32SibM0B7I1 (reg : RegIdx) (scale : BitVec 2) (s : State) : StepResult :=
  completeForm 2 (s.memLocation .ds (s.edi + scaled s.ecx scale)) reg s

/-- [EDI+EDX*2^scale] (R184). -/
def execA32SibM0B7I2 (reg : RegIdx) (scale : BitVec 2) (s : State) : StepResult :=
  completeForm 2 (s.memLocation .ds (s.edi + scaled s.edx scale)) reg s

/-- [EDI+EBX*2^scale] (R184). -/
def execA32SibM0B7I3 (reg : RegIdx) (scale : BitVec 2) (s : State) : StepResult :=
  completeForm 2 (s.memLocation .ds (s.edi + scaled s.ebx scale)) reg s

/-- [EDI] (R183). -/
def execA32SibM0B7I4 (reg : RegIdx) (_scale : BitVec 2) (s : State) : StepResult :=
  completeForm 2 (s.memLocation .ds s.edi) reg s

/-- [EDI+EBP*2^scale] (R184). -/
def execA32SibM0B7I5 (reg : RegIdx) (scale : BitVec 2) (s : State) : StepResult :=
  completeForm 2 (s.memLocation .ds (s.edi + scaled s.ebp scale)) reg s

/-- [EDI+ESI*2^scale] (R184). -/
def execA32SibM0B7I6 (reg : RegIdx) (scale : BitVec 2) (s : State) : StepResult :=
  completeForm 2 (s.memLocation .ds (s.edi + scaled s.esi scale)) reg s

/-- [EDI+EDI*2^scale] (R184). -/
def execA32SibM0B7I7 (reg : RegIdx) (scale : BitVec 2) (s : State) : StepResult :=
  completeForm 2 (s.memLocation .ds (s.edi + scaled s.edi scale)) reg s

/-- [EAX+EAX*2^scale+d8] (R188). -/
def execA32SibM1B0I0 (reg : RegIdx) (scale : BitVec 2) (disp : BitVec 8) (s : State) : StepResult :=
  completeForm 3 (s.memLocation .ds (s.eax + scaled s.eax scale + sext8to32 disp)) reg s

/-- [EAX+ECX*2^scale+d8] (R188). -/
def execA32SibM1B0I1 (reg : RegIdx) (scale : BitVec 2) (disp : BitVec 8) (s : State) : StepResult :=
  completeForm 3 (s.memLocation .ds (s.eax + scaled s.ecx scale + sext8to32 disp)) reg s

/-- [EAX+EDX*2^scale+d8] (R188). -/
def execA32SibM1B0I2 (reg : RegIdx) (scale : BitVec 2) (disp : BitVec 8) (s : State) : StepResult :=
  completeForm 3 (s.memLocation .ds (s.eax + scaled s.edx scale + sext8to32 disp)) reg s

/-- [EAX+EBX*2^scale+d8] (R188). -/
def execA32SibM1B0I3 (reg : RegIdx) (scale : BitVec 2) (disp : BitVec 8) (s : State) : StepResult :=
  completeForm 3 (s.memLocation .ds (s.eax + scaled s.ebx scale + sext8to32 disp)) reg s

/-- [EAX+d8] (R187). -/
def execA32SibM1B0I4 (reg : RegIdx) (_scale : BitVec 2) (disp : BitVec 8) (s : State) : StepResult :=
  completeForm 3 (s.memLocation .ds (s.eax + sext8to32 disp)) reg s

/-- [EAX+EBP*2^scale+d8] (R188). -/
def execA32SibM1B0I5 (reg : RegIdx) (scale : BitVec 2) (disp : BitVec 8) (s : State) : StepResult :=
  completeForm 3 (s.memLocation .ds (s.eax + scaled s.ebp scale + sext8to32 disp)) reg s

/-- [EAX+ESI*2^scale+d8] (R188). -/
def execA32SibM1B0I6 (reg : RegIdx) (scale : BitVec 2) (disp : BitVec 8) (s : State) : StepResult :=
  completeForm 3 (s.memLocation .ds (s.eax + scaled s.esi scale + sext8to32 disp)) reg s

/-- [EAX+EDI*2^scale+d8] (R188). -/
def execA32SibM1B0I7 (reg : RegIdx) (scale : BitVec 2) (disp : BitVec 8) (s : State) : StepResult :=
  completeForm 3 (s.memLocation .ds (s.eax + scaled s.edi scale + sext8to32 disp)) reg s

/-- [ECX+EAX*2^scale+d8] (R188). -/
def execA32SibM1B1I0 (reg : RegIdx) (scale : BitVec 2) (disp : BitVec 8) (s : State) : StepResult :=
  completeForm 3 (s.memLocation .ds (s.ecx + scaled s.eax scale + sext8to32 disp)) reg s

/-- [ECX+ECX*2^scale+d8] (R188). -/
def execA32SibM1B1I1 (reg : RegIdx) (scale : BitVec 2) (disp : BitVec 8) (s : State) : StepResult :=
  completeForm 3 (s.memLocation .ds (s.ecx + scaled s.ecx scale + sext8to32 disp)) reg s

/-- [ECX+EDX*2^scale+d8] (R188). -/
def execA32SibM1B1I2 (reg : RegIdx) (scale : BitVec 2) (disp : BitVec 8) (s : State) : StepResult :=
  completeForm 3 (s.memLocation .ds (s.ecx + scaled s.edx scale + sext8to32 disp)) reg s

/-- [ECX+EBX*2^scale+d8] (R188). -/
def execA32SibM1B1I3 (reg : RegIdx) (scale : BitVec 2) (disp : BitVec 8) (s : State) : StepResult :=
  completeForm 3 (s.memLocation .ds (s.ecx + scaled s.ebx scale + sext8to32 disp)) reg s

/-- [ECX+d8] (R187). -/
def execA32SibM1B1I4 (reg : RegIdx) (_scale : BitVec 2) (disp : BitVec 8) (s : State) : StepResult :=
  completeForm 3 (s.memLocation .ds (s.ecx + sext8to32 disp)) reg s

/-- [ECX+EBP*2^scale+d8] (R188). -/
def execA32SibM1B1I5 (reg : RegIdx) (scale : BitVec 2) (disp : BitVec 8) (s : State) : StepResult :=
  completeForm 3 (s.memLocation .ds (s.ecx + scaled s.ebp scale + sext8to32 disp)) reg s

/-- [ECX+ESI*2^scale+d8] (R188). -/
def execA32SibM1B1I6 (reg : RegIdx) (scale : BitVec 2) (disp : BitVec 8) (s : State) : StepResult :=
  completeForm 3 (s.memLocation .ds (s.ecx + scaled s.esi scale + sext8to32 disp)) reg s

/-- [ECX+EDI*2^scale+d8] (R188). -/
def execA32SibM1B1I7 (reg : RegIdx) (scale : BitVec 2) (disp : BitVec 8) (s : State) : StepResult :=
  completeForm 3 (s.memLocation .ds (s.ecx + scaled s.edi scale + sext8to32 disp)) reg s

/-- [EDX+EAX*2^scale+d8] (R188). -/
def execA32SibM1B2I0 (reg : RegIdx) (scale : BitVec 2) (disp : BitVec 8) (s : State) : StepResult :=
  completeForm 3 (s.memLocation .ds (s.edx + scaled s.eax scale + sext8to32 disp)) reg s

/-- [EDX+ECX*2^scale+d8] (R188). -/
def execA32SibM1B2I1 (reg : RegIdx) (scale : BitVec 2) (disp : BitVec 8) (s : State) : StepResult :=
  completeForm 3 (s.memLocation .ds (s.edx + scaled s.ecx scale + sext8to32 disp)) reg s

/-- [EDX+EDX*2^scale+d8] (R188). -/
def execA32SibM1B2I2 (reg : RegIdx) (scale : BitVec 2) (disp : BitVec 8) (s : State) : StepResult :=
  completeForm 3 (s.memLocation .ds (s.edx + scaled s.edx scale + sext8to32 disp)) reg s

/-- [EDX+EBX*2^scale+d8] (R188). -/
def execA32SibM1B2I3 (reg : RegIdx) (scale : BitVec 2) (disp : BitVec 8) (s : State) : StepResult :=
  completeForm 3 (s.memLocation .ds (s.edx + scaled s.ebx scale + sext8to32 disp)) reg s

/-- [EDX+d8] (R187). -/
def execA32SibM1B2I4 (reg : RegIdx) (_scale : BitVec 2) (disp : BitVec 8) (s : State) : StepResult :=
  completeForm 3 (s.memLocation .ds (s.edx + sext8to32 disp)) reg s

/-- [EDX+EBP*2^scale+d8] (R188). -/
def execA32SibM1B2I5 (reg : RegIdx) (scale : BitVec 2) (disp : BitVec 8) (s : State) : StepResult :=
  completeForm 3 (s.memLocation .ds (s.edx + scaled s.ebp scale + sext8to32 disp)) reg s

/-- [EDX+ESI*2^scale+d8] (R188). -/
def execA32SibM1B2I6 (reg : RegIdx) (scale : BitVec 2) (disp : BitVec 8) (s : State) : StepResult :=
  completeForm 3 (s.memLocation .ds (s.edx + scaled s.esi scale + sext8to32 disp)) reg s

/-- [EDX+EDI*2^scale+d8] (R188). -/
def execA32SibM1B2I7 (reg : RegIdx) (scale : BitVec 2) (disp : BitVec 8) (s : State) : StepResult :=
  completeForm 3 (s.memLocation .ds (s.edx + scaled s.edi scale + sext8to32 disp)) reg s

/-- [EBX+EAX*2^scale+d8] (R188). -/
def execA32SibM1B3I0 (reg : RegIdx) (scale : BitVec 2) (disp : BitVec 8) (s : State) : StepResult :=
  completeForm 3 (s.memLocation .ds (s.ebx + scaled s.eax scale + sext8to32 disp)) reg s

/-- [EBX+ECX*2^scale+d8] (R188). -/
def execA32SibM1B3I1 (reg : RegIdx) (scale : BitVec 2) (disp : BitVec 8) (s : State) : StepResult :=
  completeForm 3 (s.memLocation .ds (s.ebx + scaled s.ecx scale + sext8to32 disp)) reg s

/-- [EBX+EDX*2^scale+d8] (R188). -/
def execA32SibM1B3I2 (reg : RegIdx) (scale : BitVec 2) (disp : BitVec 8) (s : State) : StepResult :=
  completeForm 3 (s.memLocation .ds (s.ebx + scaled s.edx scale + sext8to32 disp)) reg s

/-- [EBX+EBX*2^scale+d8] (R188). -/
def execA32SibM1B3I3 (reg : RegIdx) (scale : BitVec 2) (disp : BitVec 8) (s : State) : StepResult :=
  completeForm 3 (s.memLocation .ds (s.ebx + scaled s.ebx scale + sext8to32 disp)) reg s

/-- [EBX+d8] (R187). -/
def execA32SibM1B3I4 (reg : RegIdx) (_scale : BitVec 2) (disp : BitVec 8) (s : State) : StepResult :=
  completeForm 3 (s.memLocation .ds (s.ebx + sext8to32 disp)) reg s

/-- [EBX+EBP*2^scale+d8] (R188). -/
def execA32SibM1B3I5 (reg : RegIdx) (scale : BitVec 2) (disp : BitVec 8) (s : State) : StepResult :=
  completeForm 3 (s.memLocation .ds (s.ebx + scaled s.ebp scale + sext8to32 disp)) reg s

/-- [EBX+ESI*2^scale+d8] (R188). -/
def execA32SibM1B3I6 (reg : RegIdx) (scale : BitVec 2) (disp : BitVec 8) (s : State) : StepResult :=
  completeForm 3 (s.memLocation .ds (s.ebx + scaled s.esi scale + sext8to32 disp)) reg s

/-- [EBX+EDI*2^scale+d8] (R188). -/
def execA32SibM1B3I7 (reg : RegIdx) (scale : BitVec 2) (disp : BitVec 8) (s : State) : StepResult :=
  completeForm 3 (s.memLocation .ds (s.ebx + scaled s.edi scale + sext8to32 disp)) reg s

/-- [ESP+EAX*2^scale+d8] (R188). -/
def execA32SibM1B4I0 (reg : RegIdx) (scale : BitVec 2) (disp : BitVec 8) (s : State) : StepResult :=
  completeForm 3 (s.memLocation s.espSeg (s.esp + scaled s.eax scale + sext8to32 disp)) reg s

/-- [ESP+ECX*2^scale+d8] (R188). -/
def execA32SibM1B4I1 (reg : RegIdx) (scale : BitVec 2) (disp : BitVec 8) (s : State) : StepResult :=
  completeForm 3 (s.memLocation s.espSeg (s.esp + scaled s.ecx scale + sext8to32 disp)) reg s

/-- [ESP+EDX*2^scale+d8] (R188). -/
def execA32SibM1B4I2 (reg : RegIdx) (scale : BitVec 2) (disp : BitVec 8) (s : State) : StepResult :=
  completeForm 3 (s.memLocation s.espSeg (s.esp + scaled s.edx scale + sext8to32 disp)) reg s

/-- [ESP+EBX*2^scale+d8] (R188). -/
def execA32SibM1B4I3 (reg : RegIdx) (scale : BitVec 2) (disp : BitVec 8) (s : State) : StepResult :=
  completeForm 3 (s.memLocation s.espSeg (s.esp + scaled s.ebx scale + sext8to32 disp)) reg s

/-- [ESP+d8] (R187). -/
def execA32SibM1B4I4 (reg : RegIdx) (_scale : BitVec 2) (disp : BitVec 8) (s : State) : StepResult :=
  completeForm 3 (s.memLocation s.espSeg (s.esp + sext8to32 disp)) reg s

/-- [ESP+EBP*2^scale+d8] (R188). -/
def execA32SibM1B4I5 (reg : RegIdx) (scale : BitVec 2) (disp : BitVec 8) (s : State) : StepResult :=
  completeForm 3 (s.memLocation s.espSeg (s.esp + scaled s.ebp scale + sext8to32 disp)) reg s

/-- [ESP+ESI*2^scale+d8] (R188). -/
def execA32SibM1B4I6 (reg : RegIdx) (scale : BitVec 2) (disp : BitVec 8) (s : State) : StepResult :=
  completeForm 3 (s.memLocation s.espSeg (s.esp + scaled s.esi scale + sext8to32 disp)) reg s

/-- [ESP+EDI*2^scale+d8] (R188). -/
def execA32SibM1B4I7 (reg : RegIdx) (scale : BitVec 2) (disp : BitVec 8) (s : State) : StepResult :=
  completeForm 3 (s.memLocation s.espSeg (s.esp + scaled s.edi scale + sext8to32 disp)) reg s

/-- [EBP+EAX*2^scale+d8] (R188). -/
def execA32SibM1B5I0 (reg : RegIdx) (scale : BitVec 2) (disp : BitVec 8) (s : State) : StepResult :=
  completeForm 3 (s.memLocation .ss (s.ebp + scaled s.eax scale + sext8to32 disp)) reg s

/-- [EBP+ECX*2^scale+d8] (R188). -/
def execA32SibM1B5I1 (reg : RegIdx) (scale : BitVec 2) (disp : BitVec 8) (s : State) : StepResult :=
  completeForm 3 (s.memLocation .ss (s.ebp + scaled s.ecx scale + sext8to32 disp)) reg s

/-- [EBP+EDX*2^scale+d8] (R188). -/
def execA32SibM1B5I2 (reg : RegIdx) (scale : BitVec 2) (disp : BitVec 8) (s : State) : StepResult :=
  completeForm 3 (s.memLocation .ss (s.ebp + scaled s.edx scale + sext8to32 disp)) reg s

/-- [EBP+EBX*2^scale+d8] (R188). -/
def execA32SibM1B5I3 (reg : RegIdx) (scale : BitVec 2) (disp : BitVec 8) (s : State) : StepResult :=
  completeForm 3 (s.memLocation .ss (s.ebp + scaled s.ebx scale + sext8to32 disp)) reg s

/-- [EBP+d8] (R187). -/
def execA32SibM1B5I4 (reg : RegIdx) (_scale : BitVec 2) (disp : BitVec 8) (s : State) : StepResult :=
  completeForm 3 (s.memLocation .ss (s.ebp + sext8to32 disp)) reg s

/-- [EBP+EBP*2^scale+d8] (R188). -/
def execA32SibM1B5I5 (reg : RegIdx) (scale : BitVec 2) (disp : BitVec 8) (s : State) : StepResult :=
  completeForm 3 (s.memLocation .ss (s.ebp + scaled s.ebp scale + sext8to32 disp)) reg s

/-- [EBP+ESI*2^scale+d8] (R188). -/
def execA32SibM1B5I6 (reg : RegIdx) (scale : BitVec 2) (disp : BitVec 8) (s : State) : StepResult :=
  completeForm 3 (s.memLocation .ss (s.ebp + scaled s.esi scale + sext8to32 disp)) reg s

/-- [EBP+EDI*2^scale+d8] (R188). -/
def execA32SibM1B5I7 (reg : RegIdx) (scale : BitVec 2) (disp : BitVec 8) (s : State) : StepResult :=
  completeForm 3 (s.memLocation .ss (s.ebp + scaled s.edi scale + sext8to32 disp)) reg s

/-- [ESI+EAX*2^scale+d8] (R188). -/
def execA32SibM1B6I0 (reg : RegIdx) (scale : BitVec 2) (disp : BitVec 8) (s : State) : StepResult :=
  completeForm 3 (s.memLocation .ds (s.esi + scaled s.eax scale + sext8to32 disp)) reg s

/-- [ESI+ECX*2^scale+d8] (R188). -/
def execA32SibM1B6I1 (reg : RegIdx) (scale : BitVec 2) (disp : BitVec 8) (s : State) : StepResult :=
  completeForm 3 (s.memLocation .ds (s.esi + scaled s.ecx scale + sext8to32 disp)) reg s

/-- [ESI+EDX*2^scale+d8] (R188). -/
def execA32SibM1B6I2 (reg : RegIdx) (scale : BitVec 2) (disp : BitVec 8) (s : State) : StepResult :=
  completeForm 3 (s.memLocation .ds (s.esi + scaled s.edx scale + sext8to32 disp)) reg s

/-- [ESI+EBX*2^scale+d8] (R188). -/
def execA32SibM1B6I3 (reg : RegIdx) (scale : BitVec 2) (disp : BitVec 8) (s : State) : StepResult :=
  completeForm 3 (s.memLocation .ds (s.esi + scaled s.ebx scale + sext8to32 disp)) reg s

/-- [ESI+d8] (R187). -/
def execA32SibM1B6I4 (reg : RegIdx) (_scale : BitVec 2) (disp : BitVec 8) (s : State) : StepResult :=
  completeForm 3 (s.memLocation .ds (s.esi + sext8to32 disp)) reg s

/-- [ESI+EBP*2^scale+d8] (R188). -/
def execA32SibM1B6I5 (reg : RegIdx) (scale : BitVec 2) (disp : BitVec 8) (s : State) : StepResult :=
  completeForm 3 (s.memLocation .ds (s.esi + scaled s.ebp scale + sext8to32 disp)) reg s

/-- [ESI+ESI*2^scale+d8] (R188). -/
def execA32SibM1B6I6 (reg : RegIdx) (scale : BitVec 2) (disp : BitVec 8) (s : State) : StepResult :=
  completeForm 3 (s.memLocation .ds (s.esi + scaled s.esi scale + sext8to32 disp)) reg s

/-- [ESI+EDI*2^scale+d8] (R188). -/
def execA32SibM1B6I7 (reg : RegIdx) (scale : BitVec 2) (disp : BitVec 8) (s : State) : StepResult :=
  completeForm 3 (s.memLocation .ds (s.esi + scaled s.edi scale + sext8to32 disp)) reg s

/-- [EDI+EAX*2^scale+d8] (R188). -/
def execA32SibM1B7I0 (reg : RegIdx) (scale : BitVec 2) (disp : BitVec 8) (s : State) : StepResult :=
  completeForm 3 (s.memLocation .ds (s.edi + scaled s.eax scale + sext8to32 disp)) reg s

/-- [EDI+ECX*2^scale+d8] (R188). -/
def execA32SibM1B7I1 (reg : RegIdx) (scale : BitVec 2) (disp : BitVec 8) (s : State) : StepResult :=
  completeForm 3 (s.memLocation .ds (s.edi + scaled s.ecx scale + sext8to32 disp)) reg s

/-- [EDI+EDX*2^scale+d8] (R188). -/
def execA32SibM1B7I2 (reg : RegIdx) (scale : BitVec 2) (disp : BitVec 8) (s : State) : StepResult :=
  completeForm 3 (s.memLocation .ds (s.edi + scaled s.edx scale + sext8to32 disp)) reg s

/-- [EDI+EBX*2^scale+d8] (R188). -/
def execA32SibM1B7I3 (reg : RegIdx) (scale : BitVec 2) (disp : BitVec 8) (s : State) : StepResult :=
  completeForm 3 (s.memLocation .ds (s.edi + scaled s.ebx scale + sext8to32 disp)) reg s

/-- [EDI+d8] (R187). -/
def execA32SibM1B7I4 (reg : RegIdx) (_scale : BitVec 2) (disp : BitVec 8) (s : State) : StepResult :=
  completeForm 3 (s.memLocation .ds (s.edi + sext8to32 disp)) reg s

/-- [EDI+EBP*2^scale+d8] (R188). -/
def execA32SibM1B7I5 (reg : RegIdx) (scale : BitVec 2) (disp : BitVec 8) (s : State) : StepResult :=
  completeForm 3 (s.memLocation .ds (s.edi + scaled s.ebp scale + sext8to32 disp)) reg s

/-- [EDI+ESI*2^scale+d8] (R188). -/
def execA32SibM1B7I6 (reg : RegIdx) (scale : BitVec 2) (disp : BitVec 8) (s : State) : StepResult :=
  completeForm 3 (s.memLocation .ds (s.edi + scaled s.esi scale + sext8to32 disp)) reg s

/-- [EDI+EDI*2^scale+d8] (R188). -/
def execA32SibM1B7I7 (reg : RegIdx) (scale : BitVec 2) (disp : BitVec 8) (s : State) : StepResult :=
  completeForm 3 (s.memLocation .ds (s.edi + scaled s.edi scale + sext8to32 disp)) reg s

/-- [EAX+EAX*2^scale+d32] (R190). -/
def execA32SibM2B0I0 (reg : RegIdx) (scale : BitVec 2) (disp : BitVec 32) (s : State) : StepResult :=
  completeForm 6 (s.memLocation .ds (s.eax + scaled s.eax scale + disp)) reg s

/-- [EAX+ECX*2^scale+d32] (R190). -/
def execA32SibM2B0I1 (reg : RegIdx) (scale : BitVec 2) (disp : BitVec 32) (s : State) : StepResult :=
  completeForm 6 (s.memLocation .ds (s.eax + scaled s.ecx scale + disp)) reg s

/-- [EAX+EDX*2^scale+d32] (R190). -/
def execA32SibM2B0I2 (reg : RegIdx) (scale : BitVec 2) (disp : BitVec 32) (s : State) : StepResult :=
  completeForm 6 (s.memLocation .ds (s.eax + scaled s.edx scale + disp)) reg s

/-- [EAX+EBX*2^scale+d32] (R190). -/
def execA32SibM2B0I3 (reg : RegIdx) (scale : BitVec 2) (disp : BitVec 32) (s : State) : StepResult :=
  completeForm 6 (s.memLocation .ds (s.eax + scaled s.ebx scale + disp)) reg s

/-- [EAX+d32] (R189). -/
def execA32SibM2B0I4 (reg : RegIdx) (_scale : BitVec 2) (disp : BitVec 32) (s : State) : StepResult :=
  completeForm 6 (s.memLocation .ds (s.eax + disp)) reg s

/-- [EAX+EBP*2^scale+d32] (R190). -/
def execA32SibM2B0I5 (reg : RegIdx) (scale : BitVec 2) (disp : BitVec 32) (s : State) : StepResult :=
  completeForm 6 (s.memLocation .ds (s.eax + scaled s.ebp scale + disp)) reg s

/-- [EAX+ESI*2^scale+d32] (R190). -/
def execA32SibM2B0I6 (reg : RegIdx) (scale : BitVec 2) (disp : BitVec 32) (s : State) : StepResult :=
  completeForm 6 (s.memLocation .ds (s.eax + scaled s.esi scale + disp)) reg s

/-- [EAX+EDI*2^scale+d32] (R190). -/
def execA32SibM2B0I7 (reg : RegIdx) (scale : BitVec 2) (disp : BitVec 32) (s : State) : StepResult :=
  completeForm 6 (s.memLocation .ds (s.eax + scaled s.edi scale + disp)) reg s

/-- [ECX+EAX*2^scale+d32] (R190). -/
def execA32SibM2B1I0 (reg : RegIdx) (scale : BitVec 2) (disp : BitVec 32) (s : State) : StepResult :=
  completeForm 6 (s.memLocation .ds (s.ecx + scaled s.eax scale + disp)) reg s

/-- [ECX+ECX*2^scale+d32] (R190). -/
def execA32SibM2B1I1 (reg : RegIdx) (scale : BitVec 2) (disp : BitVec 32) (s : State) : StepResult :=
  completeForm 6 (s.memLocation .ds (s.ecx + scaled s.ecx scale + disp)) reg s

/-- [ECX+EDX*2^scale+d32] (R190). -/
def execA32SibM2B1I2 (reg : RegIdx) (scale : BitVec 2) (disp : BitVec 32) (s : State) : StepResult :=
  completeForm 6 (s.memLocation .ds (s.ecx + scaled s.edx scale + disp)) reg s

/-- [ECX+EBX*2^scale+d32] (R190). -/
def execA32SibM2B1I3 (reg : RegIdx) (scale : BitVec 2) (disp : BitVec 32) (s : State) : StepResult :=
  completeForm 6 (s.memLocation .ds (s.ecx + scaled s.ebx scale + disp)) reg s

/-- [ECX+d32] (R189). -/
def execA32SibM2B1I4 (reg : RegIdx) (_scale : BitVec 2) (disp : BitVec 32) (s : State) : StepResult :=
  completeForm 6 (s.memLocation .ds (s.ecx + disp)) reg s

/-- [ECX+EBP*2^scale+d32] (R190). -/
def execA32SibM2B1I5 (reg : RegIdx) (scale : BitVec 2) (disp : BitVec 32) (s : State) : StepResult :=
  completeForm 6 (s.memLocation .ds (s.ecx + scaled s.ebp scale + disp)) reg s

/-- [ECX+ESI*2^scale+d32] (R190). -/
def execA32SibM2B1I6 (reg : RegIdx) (scale : BitVec 2) (disp : BitVec 32) (s : State) : StepResult :=
  completeForm 6 (s.memLocation .ds (s.ecx + scaled s.esi scale + disp)) reg s

/-- [ECX+EDI*2^scale+d32] (R190). -/
def execA32SibM2B1I7 (reg : RegIdx) (scale : BitVec 2) (disp : BitVec 32) (s : State) : StepResult :=
  completeForm 6 (s.memLocation .ds (s.ecx + scaled s.edi scale + disp)) reg s

/-- [EDX+EAX*2^scale+d32] (R190). -/
def execA32SibM2B2I0 (reg : RegIdx) (scale : BitVec 2) (disp : BitVec 32) (s : State) : StepResult :=
  completeForm 6 (s.memLocation .ds (s.edx + scaled s.eax scale + disp)) reg s

/-- [EDX+ECX*2^scale+d32] (R190). -/
def execA32SibM2B2I1 (reg : RegIdx) (scale : BitVec 2) (disp : BitVec 32) (s : State) : StepResult :=
  completeForm 6 (s.memLocation .ds (s.edx + scaled s.ecx scale + disp)) reg s

/-- [EDX+EDX*2^scale+d32] (R190). -/
def execA32SibM2B2I2 (reg : RegIdx) (scale : BitVec 2) (disp : BitVec 32) (s : State) : StepResult :=
  completeForm 6 (s.memLocation .ds (s.edx + scaled s.edx scale + disp)) reg s

/-- [EDX+EBX*2^scale+d32] (R190). -/
def execA32SibM2B2I3 (reg : RegIdx) (scale : BitVec 2) (disp : BitVec 32) (s : State) : StepResult :=
  completeForm 6 (s.memLocation .ds (s.edx + scaled s.ebx scale + disp)) reg s

/-- [EDX+d32] (R189). -/
def execA32SibM2B2I4 (reg : RegIdx) (_scale : BitVec 2) (disp : BitVec 32) (s : State) : StepResult :=
  completeForm 6 (s.memLocation .ds (s.edx + disp)) reg s

/-- [EDX+EBP*2^scale+d32] (R190). -/
def execA32SibM2B2I5 (reg : RegIdx) (scale : BitVec 2) (disp : BitVec 32) (s : State) : StepResult :=
  completeForm 6 (s.memLocation .ds (s.edx + scaled s.ebp scale + disp)) reg s

/-- [EDX+ESI*2^scale+d32] (R190). -/
def execA32SibM2B2I6 (reg : RegIdx) (scale : BitVec 2) (disp : BitVec 32) (s : State) : StepResult :=
  completeForm 6 (s.memLocation .ds (s.edx + scaled s.esi scale + disp)) reg s

/-- [EDX+EDI*2^scale+d32] (R190). -/
def execA32SibM2B2I7 (reg : RegIdx) (scale : BitVec 2) (disp : BitVec 32) (s : State) : StepResult :=
  completeForm 6 (s.memLocation .ds (s.edx + scaled s.edi scale + disp)) reg s

/-- [EBX+EAX*2^scale+d32] (R190). -/
def execA32SibM2B3I0 (reg : RegIdx) (scale : BitVec 2) (disp : BitVec 32) (s : State) : StepResult :=
  completeForm 6 (s.memLocation .ds (s.ebx + scaled s.eax scale + disp)) reg s

/-- [EBX+ECX*2^scale+d32] (R190). -/
def execA32SibM2B3I1 (reg : RegIdx) (scale : BitVec 2) (disp : BitVec 32) (s : State) : StepResult :=
  completeForm 6 (s.memLocation .ds (s.ebx + scaled s.ecx scale + disp)) reg s

/-- [EBX+EDX*2^scale+d32] (R190). -/
def execA32SibM2B3I2 (reg : RegIdx) (scale : BitVec 2) (disp : BitVec 32) (s : State) : StepResult :=
  completeForm 6 (s.memLocation .ds (s.ebx + scaled s.edx scale + disp)) reg s

/-- [EBX+EBX*2^scale+d32] (R190). -/
def execA32SibM2B3I3 (reg : RegIdx) (scale : BitVec 2) (disp : BitVec 32) (s : State) : StepResult :=
  completeForm 6 (s.memLocation .ds (s.ebx + scaled s.ebx scale + disp)) reg s

/-- [EBX+d32] (R189). -/
def execA32SibM2B3I4 (reg : RegIdx) (_scale : BitVec 2) (disp : BitVec 32) (s : State) : StepResult :=
  completeForm 6 (s.memLocation .ds (s.ebx + disp)) reg s

/-- [EBX+EBP*2^scale+d32] (R190). -/
def execA32SibM2B3I5 (reg : RegIdx) (scale : BitVec 2) (disp : BitVec 32) (s : State) : StepResult :=
  completeForm 6 (s.memLocation .ds (s.ebx + scaled s.ebp scale + disp)) reg s

/-- [EBX+ESI*2^scale+d32] (R190). -/
def execA32SibM2B3I6 (reg : RegIdx) (scale : BitVec 2) (disp : BitVec 32) (s : State) : StepResult :=
  completeForm 6 (s.memLocation .ds (s.ebx + scaled s.esi scale + disp)) reg s

/-- [EBX+EDI*2^scale+d32] (R190). -/
def execA32SibM2B3I7 (reg : RegIdx) (scale : BitVec 2) (disp : BitVec 32) (s : State) : StepResult :=
  completeForm 6 (s.memLocation .ds (s.ebx + scaled s.edi scale + disp)) reg s

/-- [ESP+EAX*2^scale+d32] (R190). -/
def execA32SibM2B4I0 (reg : RegIdx) (scale : BitVec 2) (disp : BitVec 32) (s : State) : StepResult :=
  completeForm 6 (s.memLocation s.espSeg (s.esp + scaled s.eax scale + disp)) reg s

/-- [ESP+ECX*2^scale+d32] (R190). -/
def execA32SibM2B4I1 (reg : RegIdx) (scale : BitVec 2) (disp : BitVec 32) (s : State) : StepResult :=
  completeForm 6 (s.memLocation s.espSeg (s.esp + scaled s.ecx scale + disp)) reg s

/-- [ESP+EDX*2^scale+d32] (R190). -/
def execA32SibM2B4I2 (reg : RegIdx) (scale : BitVec 2) (disp : BitVec 32) (s : State) : StepResult :=
  completeForm 6 (s.memLocation s.espSeg (s.esp + scaled s.edx scale + disp)) reg s

/-- [ESP+EBX*2^scale+d32] (R190). -/
def execA32SibM2B4I3 (reg : RegIdx) (scale : BitVec 2) (disp : BitVec 32) (s : State) : StepResult :=
  completeForm 6 (s.memLocation s.espSeg (s.esp + scaled s.ebx scale + disp)) reg s

/-- [ESP+d32] (R189). -/
def execA32SibM2B4I4 (reg : RegIdx) (_scale : BitVec 2) (disp : BitVec 32) (s : State) : StepResult :=
  completeForm 6 (s.memLocation s.espSeg (s.esp + disp)) reg s

/-- [ESP+EBP*2^scale+d32] (R190). -/
def execA32SibM2B4I5 (reg : RegIdx) (scale : BitVec 2) (disp : BitVec 32) (s : State) : StepResult :=
  completeForm 6 (s.memLocation s.espSeg (s.esp + scaled s.ebp scale + disp)) reg s

/-- [ESP+ESI*2^scale+d32] (R190). -/
def execA32SibM2B4I6 (reg : RegIdx) (scale : BitVec 2) (disp : BitVec 32) (s : State) : StepResult :=
  completeForm 6 (s.memLocation s.espSeg (s.esp + scaled s.esi scale + disp)) reg s

/-- [ESP+EDI*2^scale+d32] (R190). -/
def execA32SibM2B4I7 (reg : RegIdx) (scale : BitVec 2) (disp : BitVec 32) (s : State) : StepResult :=
  completeForm 6 (s.memLocation s.espSeg (s.esp + scaled s.edi scale + disp)) reg s

/-- [EBP+EAX*2^scale+d32] (R190). -/
def execA32SibM2B5I0 (reg : RegIdx) (scale : BitVec 2) (disp : BitVec 32) (s : State) : StepResult :=
  completeForm 6 (s.memLocation .ss (s.ebp + scaled s.eax scale + disp)) reg s

/-- [EBP+ECX*2^scale+d32] (R190). -/
def execA32SibM2B5I1 (reg : RegIdx) (scale : BitVec 2) (disp : BitVec 32) (s : State) : StepResult :=
  completeForm 6 (s.memLocation .ss (s.ebp + scaled s.ecx scale + disp)) reg s

/-- [EBP+EDX*2^scale+d32] (R190). -/
def execA32SibM2B5I2 (reg : RegIdx) (scale : BitVec 2) (disp : BitVec 32) (s : State) : StepResult :=
  completeForm 6 (s.memLocation .ss (s.ebp + scaled s.edx scale + disp)) reg s

/-- [EBP+EBX*2^scale+d32] (R190). -/
def execA32SibM2B5I3 (reg : RegIdx) (scale : BitVec 2) (disp : BitVec 32) (s : State) : StepResult :=
  completeForm 6 (s.memLocation .ss (s.ebp + scaled s.ebx scale + disp)) reg s

/-- [EBP+d32] (R189). -/
def execA32SibM2B5I4 (reg : RegIdx) (_scale : BitVec 2) (disp : BitVec 32) (s : State) : StepResult :=
  completeForm 6 (s.memLocation .ss (s.ebp + disp)) reg s

/-- [EBP+EBP*2^scale+d32] (R190). -/
def execA32SibM2B5I5 (reg : RegIdx) (scale : BitVec 2) (disp : BitVec 32) (s : State) : StepResult :=
  completeForm 6 (s.memLocation .ss (s.ebp + scaled s.ebp scale + disp)) reg s

/-- [EBP+ESI*2^scale+d32] (R190). -/
def execA32SibM2B5I6 (reg : RegIdx) (scale : BitVec 2) (disp : BitVec 32) (s : State) : StepResult :=
  completeForm 6 (s.memLocation .ss (s.ebp + scaled s.esi scale + disp)) reg s

/-- [EBP+EDI*2^scale+d32] (R190). -/
def execA32SibM2B5I7 (reg : RegIdx) (scale : BitVec 2) (disp : BitVec 32) (s : State) : StepResult :=
  completeForm 6 (s.memLocation .ss (s.ebp + scaled s.edi scale + disp)) reg s

/-- [ESI+EAX*2^scale+d32] (R190). -/
def execA32SibM2B6I0 (reg : RegIdx) (scale : BitVec 2) (disp : BitVec 32) (s : State) : StepResult :=
  completeForm 6 (s.memLocation .ds (s.esi + scaled s.eax scale + disp)) reg s

/-- [ESI+ECX*2^scale+d32] (R190). -/
def execA32SibM2B6I1 (reg : RegIdx) (scale : BitVec 2) (disp : BitVec 32) (s : State) : StepResult :=
  completeForm 6 (s.memLocation .ds (s.esi + scaled s.ecx scale + disp)) reg s

/-- [ESI+EDX*2^scale+d32] (R190). -/
def execA32SibM2B6I2 (reg : RegIdx) (scale : BitVec 2) (disp : BitVec 32) (s : State) : StepResult :=
  completeForm 6 (s.memLocation .ds (s.esi + scaled s.edx scale + disp)) reg s

/-- [ESI+EBX*2^scale+d32] (R190). -/
def execA32SibM2B6I3 (reg : RegIdx) (scale : BitVec 2) (disp : BitVec 32) (s : State) : StepResult :=
  completeForm 6 (s.memLocation .ds (s.esi + scaled s.ebx scale + disp)) reg s

/-- [ESI+d32] (R189). -/
def execA32SibM2B6I4 (reg : RegIdx) (_scale : BitVec 2) (disp : BitVec 32) (s : State) : StepResult :=
  completeForm 6 (s.memLocation .ds (s.esi + disp)) reg s

/-- [ESI+EBP*2^scale+d32] (R190). -/
def execA32SibM2B6I5 (reg : RegIdx) (scale : BitVec 2) (disp : BitVec 32) (s : State) : StepResult :=
  completeForm 6 (s.memLocation .ds (s.esi + scaled s.ebp scale + disp)) reg s

/-- [ESI+ESI*2^scale+d32] (R190). -/
def execA32SibM2B6I6 (reg : RegIdx) (scale : BitVec 2) (disp : BitVec 32) (s : State) : StepResult :=
  completeForm 6 (s.memLocation .ds (s.esi + scaled s.esi scale + disp)) reg s

/-- [ESI+EDI*2^scale+d32] (R190). -/
def execA32SibM2B6I7 (reg : RegIdx) (scale : BitVec 2) (disp : BitVec 32) (s : State) : StepResult :=
  completeForm 6 (s.memLocation .ds (s.esi + scaled s.edi scale + disp)) reg s

/-- [EDI+EAX*2^scale+d32] (R190). -/
def execA32SibM2B7I0 (reg : RegIdx) (scale : BitVec 2) (disp : BitVec 32) (s : State) : StepResult :=
  completeForm 6 (s.memLocation .ds (s.edi + scaled s.eax scale + disp)) reg s

/-- [EDI+ECX*2^scale+d32] (R190). -/
def execA32SibM2B7I1 (reg : RegIdx) (scale : BitVec 2) (disp : BitVec 32) (s : State) : StepResult :=
  completeForm 6 (s.memLocation .ds (s.edi + scaled s.ecx scale + disp)) reg s

/-- [EDI+EDX*2^scale+d32] (R190). -/
def execA32SibM2B7I2 (reg : RegIdx) (scale : BitVec 2) (disp : BitVec 32) (s : State) : StepResult :=
  completeForm 6 (s.memLocation .ds (s.edi + scaled s.edx scale + disp)) reg s

/-- [EDI+EBX*2^scale+d32] (R190). -/
def execA32SibM2B7I3 (reg : RegIdx) (scale : BitVec 2) (disp : BitVec 32) (s : State) : StepResult :=
  completeForm 6 (s.memLocation .ds (s.edi + scaled s.ebx scale + disp)) reg s

/-- [EDI+d32] (R189). -/
def execA32SibM2B7I4 (reg : RegIdx) (_scale : BitVec 2) (disp : BitVec 32) (s : State) : StepResult :=
  completeForm 6 (s.memLocation .ds (s.edi + disp)) reg s

/-- [EDI+EBP*2^scale+d32] (R190). -/
def execA32SibM2B7I5 (reg : RegIdx) (scale : BitVec 2) (disp : BitVec 32) (s : State) : StepResult :=
  completeForm 6 (s.memLocation .ds (s.edi + scaled s.ebp scale + disp)) reg s

/-- [EDI+ESI*2^scale+d32] (R190). -/
def execA32SibM2B7I6 (reg : RegIdx) (scale : BitVec 2) (disp : BitVec 32) (s : State) : StepResult :=
  completeForm 6 (s.memLocation .ds (s.edi + scaled s.esi scale + disp)) reg s

/-- [EDI+EDI*2^scale+d32] (R190). -/
def execA32SibM2B7I7 (reg : RegIdx) (scale : BitVec 2) (disp : BitVec 32) (s : State) : StepResult :=
  completeForm 6 (s.memLocation .ds (s.edi + scaled s.edi scale + disp)) reg s

end Sys2Proof.Machine
end

