-- ==== Sys2Proof/Machine/Ports.lean ====
section
/-! DEFINITION. The nine port operations (30_encoding.md R106, 44_translate.md, 45_port_ops.md §1 and §2,
70_reset_and_hazards.md R300). Their arguments stand in `args`, their answer in `out`. No privilege is checked (R285). -/

namespace Sys2Proof.Machine

def State.setPdBase (s : State) (v : Word) : State := { s with pdBase := v }

def State.setA20Mask (s : State) (v : Word) : State := { s with a20Mask := v }

/-- `Resolve`: the operand specifier at the cursor, in the current address size (R120, R150). -/
def execResolve (s : State) : StepResult := answerLocation (resolve s)

/-- `Translate(L, kind)` (R225, R267). -/
def execTranslate (s : State) : StepResult :=
  (translate s.args.linear s.args.kind s).toOutcome fun p t => t.setOut (.physical p)

/-- `MemRead(L, n, kind)` (R256). -/
def execMemRead (s : State) : StepResult :=
  (memRead s.args.linear s.args.count s.args.kind s).toOutcome fun bytes t =>
    t.setOut (.value s.args.count (leValue bytes))

/-- `MemWrite(L, n, v)` (R257). -/
def execMemWrite (s : State) : StepResult :=
  (memWrite s.args.linear (leBytes s.args.count s.args.value) s).toOutcome fun _ t => t.setOut .nothing

/-- `FetchWindow(L)` (R258). -/
def execFetchWindow (s : State) : StepResult :=
  (fetchWindow s.args.linear s).toOutcome fun bytes t => t.setOut (.value windowLen (leValue bytes))

/-- `pdBase <- v; tcache <- empty`, on every write, whatever was there (R250); refused for v[11:0] != 0 (R251). -/
def writePdBase (v : Word) (s : State) : Res Unit :=
  if v &&& 0xFFF#32 = 0 then .ok () ((s.setPdBase v).setTcache []) else .refused .pdBaseMisaligned

/-- `WritePdBase(v)` (R250, R251). -/
def execWritePdBase (s : State) : StepResult :=
  (writePdBase (BitVec.ofNat 32 s.args.value) s).toOutcome fun _ t => t.setOut .nothing

/-- `tcache <- empty` (R252). -/
def flushCache (s : State) : State := s.setTcache []

/-- `FlushCache()` (R252). -/
def execFlushCache (s : State) : StepResult := .next ((flushCache s).setOut .nothing)

/-- `a20Mask <- enabled ? 0xFFFFFFFF : 0x000FFFFF`; the cache is not cleared (R254, R255). -/
def setA20 (enabled : Bool) (s : State) : State := s.setA20Mask (a20MaskOf enabled)

/-- `SetA20(enabled)` (R254). -/
def execSetA20 (s : State) : StepResult := .next ((setA20 s.args.enabled s).setOut .nothing)

/-- The owned state at the values of R45; backing store, configuration, register file, size modes stay (R300). The window
is unspecified until the next fetch (R45): sixteen FREE bytes (log 7). -/
def resetBlock (s : State) : State :=
  { s with pdBase := 0, tcache := [], walkCount := 0, a20Mask := a20MaskOf s.cfg.resetA20Enabled, segOverride := none,
           win := freeBytes s.freeIndex windowLen, cursor := 0, freeIndex := s.freeIndex + 1 }

/-- `Reset()` (R300). -/
def execReset (s : State) : StepResult := .next ((resetBlock s).setOut .nothing)

end Sys2Proof.Machine
end

