-- ==== Sys2Proof/Machine/Prefixes.lean ====
section
/-! DEFINITION. The eight prefix instructions (10_state.md R41, 30_encoding.md R101, 45_port_ops.md R264, R265): a prefix sets
its pending state and advances IP by the bytes consumed, "but not the epilog, so its effect reaches the next instruction". -/

namespace Sys2Proof.Machine

/-- "IP <- (IPstart + cursor) mod 2^32" (R264); until this step IP holds IPstart (R281). -/
def State.advanceIp (s : State) : State := { s with ip := s.ip + BitVec.ofNat 32 s.cursor }

/-- The pending override; of two the last wins (R41). -/
def State.setOverride (s : State) (seg : Option Seg) : State := { s with segOverride := seg }

/-- The size-mode bits of the current instruction (R37). -/
def State.setSizes (s : State) (address32 operand32 : Bool) : State :=
  { s with addressSize32 := address32, operandSize32 := operand32 }

/-- A prefix instruction: its byte consumed, its pending state set, IP advanced (R265, log 19). -/
def completePrefix (f : State → State) (s : State) : StepResult :=
  (skipBytes 1 s).toOutcome fun _ t => ((f t).advanceIp).setOut .nothing

/-- segOverride <- ES (R41, R101). -/
def execPrefixEs (s : State) : StepResult := completePrefix (fun t => t.setOverride (some .es)) s

/-- segOverride <- CS (R41, R101). -/
def execPrefixCs (s : State) : StepResult := completePrefix (fun t => t.setOverride (some .cs)) s

/-- segOverride <- SS (R41, R101). -/
def execPrefixSs (s : State) : StepResult := completePrefix (fun t => t.setOverride (some .ss)) s

/-- segOverride <- DS (R41, R101). -/
def execPrefixDs (s : State) : StepResult := completePrefix (fun t => t.setOverride (some .ds)) s

/-- segOverride <- FS (R41, R101). -/
def execPrefixFs (s : State) : StepResult := completePrefix (fun t => t.setOverride (some .fs)) s

/-- segOverride <- GS (R41, R101). -/
def execPrefixGs (s : State) : StepResult := completePrefix (fun t => t.setOverride (some .gs)) s

/-- Toggles operandSize32 for the next instruction (R101, R265; a second one toggles back, log 18). -/
def execPrefixOpsize (s : State) : StepResult :=
  completePrefix (fun t => t.setSizes t.addressSize32 (!t.operandSize32)) s

/-- Toggles addressSize32 for the next instruction (R101, R265; a second one toggles back, log 18). -/
def execPrefixAddrsize (s : State) : StepResult :=
  completePrefix (fun t => t.setSizes (!t.addressSize32) t.operandSize32) s

end Sys2Proof.Machine
end

