-- ==== Sys2Proof/Machine/Dispatch.lean ====
section
/-! DEFINITION. One arm per constructor of Instr: its meaning. -/

namespace Sys2Proof.Machine

def exec (i : Instr) (s : State) : Host.Outcome State Fault Refusal :=
  match i with
  | .a16M0Rm0 reg => Sys2Proof.Machine.execA16M0Rm0 reg s
  | .a16M0Rm1 reg => Sys2Proof.Machine.execA16M0Rm1 reg s
  | .a16M0Rm2 reg => Sys2Proof.Machine.execA16M0Rm2 reg s
  | .a16M0Rm3 reg => Sys2Proof.Machine.execA16M0Rm3 reg s
  | .a16M0Rm4 reg => Sys2Proof.Machine.execA16M0Rm4 reg s
  | .a16M0Rm5 reg => Sys2Proof.Machine.execA16M0Rm5 reg s
  | .a16M0Rm6 reg disp => Sys2Proof.Machine.execA16M0Rm6 reg disp s
  | .a16M0Rm7 reg => Sys2Proof.Machine.execA16M0Rm7 reg s
  | .a16M1Rm0 reg disp => Sys2Proof.Machine.execA16M1Rm0 reg disp s
  | .a16M1Rm1 reg disp => Sys2Proof.Machine.execA16M1Rm1 reg disp s
  | .a16M1Rm2 reg disp => Sys2Proof.Machine.execA16M1Rm2 reg disp s
  | .a16M1Rm3 reg disp => Sys2Proof.Machine.execA16M1Rm3 reg disp s
  | .a16M1Rm4 reg disp => Sys2Proof.Machine.execA16M1Rm4 reg disp s
  | .a16M1Rm5 reg disp => Sys2Proof.Machine.execA16M1Rm5 reg disp s
  | .a16M1Rm6 reg disp => Sys2Proof.Machine.execA16M1Rm6 reg disp s
  | .a16M1Rm7 reg disp => Sys2Proof.Machine.execA16M1Rm7 reg disp s
  | .a16M2Rm0 reg disp => Sys2Proof.Machine.execA16M2Rm0 reg disp s
  | .a16M2Rm1 reg disp => Sys2Proof.Machine.execA16M2Rm1 reg disp s
  | .a16M2Rm2 reg disp => Sys2Proof.Machine.execA16M2Rm2 reg disp s
  | .a16M2Rm3 reg disp => Sys2Proof.Machine.execA16M2Rm3 reg disp s
  | .a16M2Rm4 reg disp => Sys2Proof.Machine.execA16M2Rm4 reg disp s
  | .a16M2Rm5 reg disp => Sys2Proof.Machine.execA16M2Rm5 reg disp s
  | .a16M2Rm6 reg disp => Sys2Proof.Machine.execA16M2Rm6 reg disp s
  | .a16M2Rm7 reg disp => Sys2Proof.Machine.execA16M2Rm7 reg disp s
  | .a16Reg reg rm => Sys2Proof.Machine.execA16Reg reg rm s
  | .a32M0Rm0 reg => Sys2Proof.Machine.execA32M0Rm0 reg s
  | .a32M0Rm1 reg => Sys2Proof.Machine.execA32M0Rm1 reg s
  | .a32M0Rm2 reg => Sys2Proof.Machine.execA32M0Rm2 reg s
  | .a32M0Rm3 reg => Sys2Proof.Machine.execA32M0Rm3 reg s
  | .a32M0Rm5 reg disp => Sys2Proof.Machine.execA32M0Rm5 reg disp s
  | .a32M0Rm6 reg => Sys2Proof.Machine.execA32M0Rm6 reg s
  | .a32M0Rm7 reg => Sys2Proof.Machine.execA32M0Rm7 reg s
  | .a32M1Rm0 reg disp => Sys2Proof.Machine.execA32M1Rm0 reg disp s
  | .a32M1Rm1 reg disp => Sys2Proof.Machine.execA32M1Rm1 reg disp s
  | .a32M1Rm2 reg disp => Sys2Proof.Machine.execA32M1Rm2 reg disp s
  | .a32M1Rm3 reg disp => Sys2Proof.Machine.execA32M1Rm3 reg disp s
  | .a32M1Rm5 reg disp => Sys2Proof.Machine.execA32M1Rm5 reg disp s
  | .a32M1Rm6 reg disp => Sys2Proof.Machine.execA32M1Rm6 reg disp s
  | .a32M1Rm7 reg disp => Sys2Proof.Machine.execA32M1Rm7 reg disp s
  | .a32M2Rm0 reg disp => Sys2Proof.Machine.execA32M2Rm0 reg disp s
  | .a32M2Rm1 reg disp => Sys2Proof.Machine.execA32M2Rm1 reg disp s
  | .a32M2Rm2 reg disp => Sys2Proof.Machine.execA32M2Rm2 reg disp s
  | .a32M2Rm3 reg disp => Sys2Proof.Machine.execA32M2Rm3 reg disp s
  | .a32M2Rm5 reg disp => Sys2Proof.Machine.execA32M2Rm5 reg disp s
  | .a32M2Rm6 reg disp => Sys2Proof.Machine.execA32M2Rm6 reg disp s
  | .a32M2Rm7 reg disp => Sys2Proof.Machine.execA32M2Rm7 reg disp s
  | .a32Reg reg rm => Sys2Proof.Machine.execA32Reg reg rm s
  | .a32SibM0 reg => Sys2Proof.Machine.execA32SibM0 reg s
  | .a32SibM1 reg => Sys2Proof.Machine.execA32SibM1 reg s
  | .a32SibM2 reg => Sys2Proof.Machine.execA32SibM2 reg s
  | .a32SibM0B0I0 reg scale => Sys2Proof.Machine.execA32SibM0B0I0 reg scale s
  | .a32SibM0B0I1 reg scale => Sys2Proof.Machine.execA32SibM0B0I1 reg scale s
  | .a32SibM0B0I2 reg scale => Sys2Proof.Machine.execA32SibM0B0I2 reg scale s
  | .a32SibM0B0I3 reg scale => Sys2Proof.Machine.execA32SibM0B0I3 reg scale s
  | .a32SibM0B0I4 reg scale => Sys2Proof.Machine.execA32SibM0B0I4 reg scale s
  | .a32SibM0B0I5 reg scale => Sys2Proof.Machine.execA32SibM0B0I5 reg scale s
  | .a32SibM0B0I6 reg scale => Sys2Proof.Machine.execA32SibM0B0I6 reg scale s
  | .a32SibM0B0I7 reg scale => Sys2Proof.Machine.execA32SibM0B0I7 reg scale s
  | .a32SibM0B1I0 reg scale => Sys2Proof.Machine.execA32SibM0B1I0 reg scale s
  | .a32SibM0B1I1 reg scale => Sys2Proof.Machine.execA32SibM0B1I1 reg scale s
  | .a32SibM0B1I2 reg scale => Sys2Proof.Machine.execA32SibM0B1I2 reg scale s
  | .a32SibM0B1I3 reg scale => Sys2Proof.Machine.execA32SibM0B1I3 reg scale s
  | .a32SibM0B1I4 reg scale => Sys2Proof.Machine.execA32SibM0B1I4 reg scale s
  | .a32SibM0B1I5 reg scale => Sys2Proof.Machine.execA32SibM0B1I5 reg scale s
  | .a32SibM0B1I6 reg scale => Sys2Proof.Machine.execA32SibM0B1I6 reg scale s
  | .a32SibM0B1I7 reg scale => Sys2Proof.Machine.execA32SibM0B1I7 reg scale s
  | .a32SibM0B2I0 reg scale => Sys2Proof.Machine.execA32SibM0B2I0 reg scale s
  | .a32SibM0B2I1 reg scale => Sys2Proof.Machine.execA32SibM0B2I1 reg scale s
  | .a32SibM0B2I2 reg scale => Sys2Proof.Machine.execA32SibM0B2I2 reg scale s
  | .a32SibM0B2I3 reg scale => Sys2Proof.Machine.execA32SibM0B2I3 reg scale s
  | .a32SibM0B2I4 reg scale => Sys2Proof.Machine.execA32SibM0B2I4 reg scale s
  | .a32SibM0B2I5 reg scale => Sys2Proof.Machine.execA32SibM0B2I5 reg scale s
  | .a32SibM0B2I6 reg scale => Sys2Proof.Machine.execA32SibM0B2I6 reg scale s
  | .a32SibM0B2I7 reg scale => Sys2Proof.Machine.execA32SibM0B2I7 reg scale s
  | .a32SibM0B3I0 reg scale => Sys2Proof.Machine.execA32SibM0B3I0 reg scale s
  | .a32SibM0B3I1 reg scale => Sys2Proof.Machine.execA32SibM0B3I1 reg scale s
  | .a32SibM0B3I2 reg scale => Sys2Proof.Machine.execA32SibM0B3I2 reg scale s
  | .a32SibM0B3I3 reg scale => Sys2Proof.Machine.execA32SibM0B3I3 reg scale s
  | .a32SibM0B3I4 reg scale => Sys2Proof.Machine.execA32SibM0B3I4 reg scale s
  | .a32SibM0B3I5 reg scale => Sys2Proof.Machine.execA32SibM0B3I5 reg scale s
  | .a32SibM0B3I6 reg scale => Sys2Proof.Machine.execA32SibM0B3I6 reg scale s
  | .a32SibM0B3I7 reg scale => Sys2Proof.Machine.execA32SibM0B3I7 reg scale s
  | .a32SibM0B4I0 reg scale => Sys2Proof.Machine.execA32SibM0B4I0 reg scale s
  | .a32SibM0B4I1 reg scale => Sys2Proof.Machine.execA32SibM0B4I1 reg scale s
  | .a32SibM0B4I2 reg scale => Sys2Proof.Machine.execA32SibM0B4I2 reg scale s
  | .a32SibM0B4I3 reg scale => Sys2Proof.Machine.execA32SibM0B4I3 reg scale s
  | .a32SibM0B4I4 reg scale => Sys2Proof.Machine.execA32SibM0B4I4 reg scale s
  | .a32SibM0B4I5 reg scale => Sys2Proof.Machine.execA32SibM0B4I5 reg scale s
  | .a32SibM0B4I6 reg scale => Sys2Proof.Machine.execA32SibM0B4I6 reg scale s
  | .a32SibM0B4I7 reg scale => Sys2Proof.Machine.execA32SibM0B4I7 reg scale s
  | .a32SibM0B5I0 reg scale disp => Sys2Proof.Machine.execA32SibM0B5I0 reg scale disp s
  | .a32SibM0B5I1 reg scale disp => Sys2Proof.Machine.execA32SibM0B5I1 reg scale disp s
  | .a32SibM0B5I2 reg scale disp => Sys2Proof.Machine.execA32SibM0B5I2 reg scale disp s
  | .a32SibM0B5I3 reg scale disp => Sys2Proof.Machine.execA32SibM0B5I3 reg scale disp s
  | .a32SibM0B5I4 reg scale disp => Sys2Proof.Machine.execA32SibM0B5I4 reg scale disp s
  | .a32SibM0B5I5 reg scale disp => Sys2Proof.Machine.execA32SibM0B5I5 reg scale disp s
  | .a32SibM0B5I6 reg scale disp => Sys2Proof.Machine.execA32SibM0B5I6 reg scale disp s
  | .a32SibM0B5I7 reg scale disp => Sys2Proof.Machine.execA32SibM0B5I7 reg scale disp s
  | .a32SibM0B6I0 reg scale => Sys2Proof.Machine.execA32SibM0B6I0 reg scale s
  | .a32SibM0B6I1 reg scale => Sys2Proof.Machine.execA32SibM0B6I1 reg scale s
  | .a32SibM0B6I2 reg scale => Sys2Proof.Machine.execA32SibM0B6I2 reg scale s
  | .a32SibM0B6I3 reg scale => Sys2Proof.Machine.execA32SibM0B6I3 reg scale s
  | .a32SibM0B6I4 reg scale => Sys2Proof.Machine.execA32SibM0B6I4 reg scale s
  | .a32SibM0B6I5 reg scale => Sys2Proof.Machine.execA32SibM0B6I5 reg scale s
  | .a32SibM0B6I6 reg scale => Sys2Proof.Machine.execA32SibM0B6I6 reg scale s
  | .a32SibM0B6I7 reg scale => Sys2Proof.Machine.execA32SibM0B6I7 reg scale s
  | .a32SibM0B7I0 reg scale => Sys2Proof.Machine.execA32SibM0B7I0 reg scale s
  | .a32SibM0B7I1 reg scale => Sys2Proof.Machine.execA32SibM0B7I1 reg scale s
  | .a32SibM0B7I2 reg scale => Sys2Proof.Machine.execA32SibM0B7I2 reg scale s
  | .a32SibM0B7I3 reg scale => Sys2Proof.Machine.execA32SibM0B7I3 reg scale s
  | .a32SibM0B7I4 reg scale => Sys2Proof.Machine.execA32SibM0B7I4 reg scale s
  | .a32SibM0B7I5 reg scale => Sys2Proof.Machine.execA32SibM0B7I5 reg scale s
  | .a32SibM0B7I6 reg scale => Sys2Proof.Machine.execA32SibM0B7I6 reg scale s
  | .a32SibM0B7I7 reg scale => Sys2Proof.Machine.execA32SibM0B7I7 reg scale s
  | .a32SibM1B0I0 reg scale disp => Sys2Proof.Machine.execA32SibM1B0I0 reg scale disp s
  | .a32SibM1B0I1 reg scale disp => Sys2Proof.Machine.execA32SibM1B0I1 reg scale disp s
  | .a32SibM1B0I2 reg scale disp => Sys2Proof.Machine.execA32SibM1B0I2 reg scale disp s
  | .a32SibM1B0I3 reg scale disp => Sys2Proof.Machine.execA32SibM1B0I3 reg scale disp s
  | .a32SibM1B0I4 reg scale disp => Sys2Proof.Machine.execA32SibM1B0I4 reg scale disp s
  | .a32SibM1B0I5 reg scale disp => Sys2Proof.Machine.execA32SibM1B0I5 reg scale disp s
  | .a32SibM1B0I6 reg scale disp => Sys2Proof.Machine.execA32SibM1B0I6 reg scale disp s
  | .a32SibM1B0I7 reg scale disp => Sys2Proof.Machine.execA32SibM1B0I7 reg scale disp s
  | .a32SibM1B1I0 reg scale disp => Sys2Proof.Machine.execA32SibM1B1I0 reg scale disp s
  | .a32SibM1B1I1 reg scale disp => Sys2Proof.Machine.execA32SibM1B1I1 reg scale disp s
  | .a32SibM1B1I2 reg scale disp => Sys2Proof.Machine.execA32SibM1B1I2 reg scale disp s
  | .a32SibM1B1I3 reg scale disp => Sys2Proof.Machine.execA32SibM1B1I3 reg scale disp s
  | .a32SibM1B1I4 reg scale disp => Sys2Proof.Machine.execA32SibM1B1I4 reg scale disp s
  | .a32SibM1B1I5 reg scale disp => Sys2Proof.Machine.execA32SibM1B1I5 reg scale disp s
  | .a32SibM1B1I6 reg scale disp => Sys2Proof.Machine.execA32SibM1B1I6 reg scale disp s
  | .a32SibM1B1I7 reg scale disp => Sys2Proof.Machine.execA32SibM1B1I7 reg scale disp s
  | .a32SibM1B2I0 reg scale disp => Sys2Proof.Machine.execA32SibM1B2I0 reg scale disp s
  | .a32SibM1B2I1 reg scale disp => Sys2Proof.Machine.execA32SibM1B2I1 reg scale disp s
  | .a32SibM1B2I2 reg scale disp => Sys2Proof.Machine.execA32SibM1B2I2 reg scale disp s
  | .a32SibM1B2I3 reg scale disp => Sys2Proof.Machine.execA32SibM1B2I3 reg scale disp s
  | .a32SibM1B2I4 reg scale disp => Sys2Proof.Machine.execA32SibM1B2I4 reg scale disp s
  | .a32SibM1B2I5 reg scale disp => Sys2Proof.Machine.execA32SibM1B2I5 reg scale disp s
  | .a32SibM1B2I6 reg scale disp => Sys2Proof.Machine.execA32SibM1B2I6 reg scale disp s
  | .a32SibM1B2I7 reg scale disp => Sys2Proof.Machine.execA32SibM1B2I7 reg scale disp s
  | .a32SibM1B3I0 reg scale disp => Sys2Proof.Machine.execA32SibM1B3I0 reg scale disp s
  | .a32SibM1B3I1 reg scale disp => Sys2Proof.Machine.execA32SibM1B3I1 reg scale disp s
  | .a32SibM1B3I2 reg scale disp => Sys2Proof.Machine.execA32SibM1B3I2 reg scale disp s
  | .a32SibM1B3I3 reg scale disp => Sys2Proof.Machine.execA32SibM1B3I3 reg scale disp s
  | .a32SibM1B3I4 reg scale disp => Sys2Proof.Machine.execA32SibM1B3I4 reg scale disp s
  | .a32SibM1B3I5 reg scale disp => Sys2Proof.Machine.execA32SibM1B3I5 reg scale disp s
  | .a32SibM1B3I6 reg scale disp => Sys2Proof.Machine.execA32SibM1B3I6 reg scale disp s
  | .a32SibM1B3I7 reg scale disp => Sys2Proof.Machine.execA32SibM1B3I7 reg scale disp s
  | .a32SibM1B4I0 reg scale disp => Sys2Proof.Machine.execA32SibM1B4I0 reg scale disp s
  | .a32SibM1B4I1 reg scale disp => Sys2Proof.Machine.execA32SibM1B4I1 reg scale disp s
  | .a32SibM1B4I2 reg scale disp => Sys2Proof.Machine.execA32SibM1B4I2 reg scale disp s
  | .a32SibM1B4I3 reg scale disp => Sys2Proof.Machine.execA32SibM1B4I3 reg scale disp s
  | .a32SibM1B4I4 reg scale disp => Sys2Proof.Machine.execA32SibM1B4I4 reg scale disp s
  | .a32SibM1B4I5 reg scale disp => Sys2Proof.Machine.execA32SibM1B4I5 reg scale disp s
  | .a32SibM1B4I6 reg scale disp => Sys2Proof.Machine.execA32SibM1B4I6 reg scale disp s
  | .a32SibM1B4I7 reg scale disp => Sys2Proof.Machine.execA32SibM1B4I7 reg scale disp s
  | .a32SibM1B5I0 reg scale disp => Sys2Proof.Machine.execA32SibM1B5I0 reg scale disp s
  | .a32SibM1B5I1 reg scale disp => Sys2Proof.Machine.execA32SibM1B5I1 reg scale disp s
  | .a32SibM1B5I2 reg scale disp => Sys2Proof.Machine.execA32SibM1B5I2 reg scale disp s
  | .a32SibM1B5I3 reg scale disp => Sys2Proof.Machine.execA32SibM1B5I3 reg scale disp s
  | .a32SibM1B5I4 reg scale disp => Sys2Proof.Machine.execA32SibM1B5I4 reg scale disp s
  | .a32SibM1B5I5 reg scale disp => Sys2Proof.Machine.execA32SibM1B5I5 reg scale disp s
  | .a32SibM1B5I6 reg scale disp => Sys2Proof.Machine.execA32SibM1B5I6 reg scale disp s
  | .a32SibM1B5I7 reg scale disp => Sys2Proof.Machine.execA32SibM1B5I7 reg scale disp s
  | .a32SibM1B6I0 reg scale disp => Sys2Proof.Machine.execA32SibM1B6I0 reg scale disp s
  | .a32SibM1B6I1 reg scale disp => Sys2Proof.Machine.execA32SibM1B6I1 reg scale disp s
  | .a32SibM1B6I2 reg scale disp => Sys2Proof.Machine.execA32SibM1B6I2 reg scale disp s
  | .a32SibM1B6I3 reg scale disp => Sys2Proof.Machine.execA32SibM1B6I3 reg scale disp s
  | .a32SibM1B6I4 reg scale disp => Sys2Proof.Machine.execA32SibM1B6I4 reg scale disp s
  | .a32SibM1B6I5 reg scale disp => Sys2Proof.Machine.execA32SibM1B6I5 reg scale disp s
  | .a32SibM1B6I6 reg scale disp => Sys2Proof.Machine.execA32SibM1B6I6 reg scale disp s
  | .a32SibM1B6I7 reg scale disp => Sys2Proof.Machine.execA32SibM1B6I7 reg scale disp s
  | .a32SibM1B7I0 reg scale disp => Sys2Proof.Machine.execA32SibM1B7I0 reg scale disp s
  | .a32SibM1B7I1 reg scale disp => Sys2Proof.Machine.execA32SibM1B7I1 reg scale disp s
  | .a32SibM1B7I2 reg scale disp => Sys2Proof.Machine.execA32SibM1B7I2 reg scale disp s
  | .a32SibM1B7I3 reg scale disp => Sys2Proof.Machine.execA32SibM1B7I3 reg scale disp s
  | .a32SibM1B7I4 reg scale disp => Sys2Proof.Machine.execA32SibM1B7I4 reg scale disp s
  | .a32SibM1B7I5 reg scale disp => Sys2Proof.Machine.execA32SibM1B7I5 reg scale disp s
  | .a32SibM1B7I6 reg scale disp => Sys2Proof.Machine.execA32SibM1B7I6 reg scale disp s
  | .a32SibM1B7I7 reg scale disp => Sys2Proof.Machine.execA32SibM1B7I7 reg scale disp s
  | .a32SibM2B0I0 reg scale disp => Sys2Proof.Machine.execA32SibM2B0I0 reg scale disp s
  | .a32SibM2B0I1 reg scale disp => Sys2Proof.Machine.execA32SibM2B0I1 reg scale disp s
  | .a32SibM2B0I2 reg scale disp => Sys2Proof.Machine.execA32SibM2B0I2 reg scale disp s
  | .a32SibM2B0I3 reg scale disp => Sys2Proof.Machine.execA32SibM2B0I3 reg scale disp s
  | .a32SibM2B0I4 reg scale disp => Sys2Proof.Machine.execA32SibM2B0I4 reg scale disp s
  | .a32SibM2B0I5 reg scale disp => Sys2Proof.Machine.execA32SibM2B0I5 reg scale disp s
  | .a32SibM2B0I6 reg scale disp => Sys2Proof.Machine.execA32SibM2B0I6 reg scale disp s
  | .a32SibM2B0I7 reg scale disp => Sys2Proof.Machine.execA32SibM2B0I7 reg scale disp s
  | .a32SibM2B1I0 reg scale disp => Sys2Proof.Machine.execA32SibM2B1I0 reg scale disp s
  | .a32SibM2B1I1 reg scale disp => Sys2Proof.Machine.execA32SibM2B1I1 reg scale disp s
  | .a32SibM2B1I2 reg scale disp => Sys2Proof.Machine.execA32SibM2B1I2 reg scale disp s
  | .a32SibM2B1I3 reg scale disp => Sys2Proof.Machine.execA32SibM2B1I3 reg scale disp s
  | .a32SibM2B1I4 reg scale disp => Sys2Proof.Machine.execA32SibM2B1I4 reg scale disp s
  | .a32SibM2B1I5 reg scale disp => Sys2Proof.Machine.execA32SibM2B1I5 reg scale disp s
  | .a32SibM2B1I6 reg scale disp => Sys2Proof.Machine.execA32SibM2B1I6 reg scale disp s
  | .a32SibM2B1I7 reg scale disp => Sys2Proof.Machine.execA32SibM2B1I7 reg scale disp s
  | .a32SibM2B2I0 reg scale disp => Sys2Proof.Machine.execA32SibM2B2I0 reg scale disp s
  | .a32SibM2B2I1 reg scale disp => Sys2Proof.Machine.execA32SibM2B2I1 reg scale disp s
  | .a32SibM2B2I2 reg scale disp => Sys2Proof.Machine.execA32SibM2B2I2 reg scale disp s
  | .a32SibM2B2I3 reg scale disp => Sys2Proof.Machine.execA32SibM2B2I3 reg scale disp s
  | .a32SibM2B2I4 reg scale disp => Sys2Proof.Machine.execA32SibM2B2I4 reg scale disp s
  | .a32SibM2B2I5 reg scale disp => Sys2Proof.Machine.execA32SibM2B2I5 reg scale disp s
  | .a32SibM2B2I6 reg scale disp => Sys2Proof.Machine.execA32SibM2B2I6 reg scale disp s
  | .a32SibM2B2I7 reg scale disp => Sys2Proof.Machine.execA32SibM2B2I7 reg scale disp s
  | .a32SibM2B3I0 reg scale disp => Sys2Proof.Machine.execA32SibM2B3I0 reg scale disp s
  | .a32SibM2B3I1 reg scale disp => Sys2Proof.Machine.execA32SibM2B3I1 reg scale disp s
  | .a32SibM2B3I2 reg scale disp => Sys2Proof.Machine.execA32SibM2B3I2 reg scale disp s
  | .a32SibM2B3I3 reg scale disp => Sys2Proof.Machine.execA32SibM2B3I3 reg scale disp s
  | .a32SibM2B3I4 reg scale disp => Sys2Proof.Machine.execA32SibM2B3I4 reg scale disp s
  | .a32SibM2B3I5 reg scale disp => Sys2Proof.Machine.execA32SibM2B3I5 reg scale disp s
  | .a32SibM2B3I6 reg scale disp => Sys2Proof.Machine.execA32SibM2B3I6 reg scale disp s
  | .a32SibM2B3I7 reg scale disp => Sys2Proof.Machine.execA32SibM2B3I7 reg scale disp s
  | .a32SibM2B4I0 reg scale disp => Sys2Proof.Machine.execA32SibM2B4I0 reg scale disp s
  | .a32SibM2B4I1 reg scale disp => Sys2Proof.Machine.execA32SibM2B4I1 reg scale disp s
  | .a32SibM2B4I2 reg scale disp => Sys2Proof.Machine.execA32SibM2B4I2 reg scale disp s
  | .a32SibM2B4I3 reg scale disp => Sys2Proof.Machine.execA32SibM2B4I3 reg scale disp s
  | .a32SibM2B4I4 reg scale disp => Sys2Proof.Machine.execA32SibM2B4I4 reg scale disp s
  | .a32SibM2B4I5 reg scale disp => Sys2Proof.Machine.execA32SibM2B4I5 reg scale disp s
  | .a32SibM2B4I6 reg scale disp => Sys2Proof.Machine.execA32SibM2B4I6 reg scale disp s
  | .a32SibM2B4I7 reg scale disp => Sys2Proof.Machine.execA32SibM2B4I7 reg scale disp s
  | .a32SibM2B5I0 reg scale disp => Sys2Proof.Machine.execA32SibM2B5I0 reg scale disp s
  | .a32SibM2B5I1 reg scale disp => Sys2Proof.Machine.execA32SibM2B5I1 reg scale disp s
  | .a32SibM2B5I2 reg scale disp => Sys2Proof.Machine.execA32SibM2B5I2 reg scale disp s
  | .a32SibM2B5I3 reg scale disp => Sys2Proof.Machine.execA32SibM2B5I3 reg scale disp s
  | .a32SibM2B5I4 reg scale disp => Sys2Proof.Machine.execA32SibM2B5I4 reg scale disp s
  | .a32SibM2B5I5 reg scale disp => Sys2Proof.Machine.execA32SibM2B5I5 reg scale disp s
  | .a32SibM2B5I6 reg scale disp => Sys2Proof.Machine.execA32SibM2B5I6 reg scale disp s
  | .a32SibM2B5I7 reg scale disp => Sys2Proof.Machine.execA32SibM2B5I7 reg scale disp s
  | .a32SibM2B6I0 reg scale disp => Sys2Proof.Machine.execA32SibM2B6I0 reg scale disp s
  | .a32SibM2B6I1 reg scale disp => Sys2Proof.Machine.execA32SibM2B6I1 reg scale disp s
  | .a32SibM2B6I2 reg scale disp => Sys2Proof.Machine.execA32SibM2B6I2 reg scale disp s
  | .a32SibM2B6I3 reg scale disp => Sys2Proof.Machine.execA32SibM2B6I3 reg scale disp s
  | .a32SibM2B6I4 reg scale disp => Sys2Proof.Machine.execA32SibM2B6I4 reg scale disp s
  | .a32SibM2B6I5 reg scale disp => Sys2Proof.Machine.execA32SibM2B6I5 reg scale disp s
  | .a32SibM2B6I6 reg scale disp => Sys2Proof.Machine.execA32SibM2B6I6 reg scale disp s
  | .a32SibM2B6I7 reg scale disp => Sys2Proof.Machine.execA32SibM2B6I7 reg scale disp s
  | .a32SibM2B7I0 reg scale disp => Sys2Proof.Machine.execA32SibM2B7I0 reg scale disp s
  | .a32SibM2B7I1 reg scale disp => Sys2Proof.Machine.execA32SibM2B7I1 reg scale disp s
  | .a32SibM2B7I2 reg scale disp => Sys2Proof.Machine.execA32SibM2B7I2 reg scale disp s
  | .a32SibM2B7I3 reg scale disp => Sys2Proof.Machine.execA32SibM2B7I3 reg scale disp s
  | .a32SibM2B7I4 reg scale disp => Sys2Proof.Machine.execA32SibM2B7I4 reg scale disp s
  | .a32SibM2B7I5 reg scale disp => Sys2Proof.Machine.execA32SibM2B7I5 reg scale disp s
  | .a32SibM2B7I6 reg scale disp => Sys2Proof.Machine.execA32SibM2B7I6 reg scale disp s
  | .a32SibM2B7I7 reg scale disp => Sys2Proof.Machine.execA32SibM2B7I7 reg scale disp s
  | .prefixEs => Sys2Proof.Machine.execPrefixEs s
  | .prefixCs => Sys2Proof.Machine.execPrefixCs s
  | .prefixSs => Sys2Proof.Machine.execPrefixSs s
  | .prefixDs => Sys2Proof.Machine.execPrefixDs s
  | .prefixFs => Sys2Proof.Machine.execPrefixFs s
  | .prefixGs => Sys2Proof.Machine.execPrefixGs s
  | .prefixOpsize => Sys2Proof.Machine.execPrefixOpsize s
  | .prefixAddrsize => Sys2Proof.Machine.execPrefixAddrsize s
  | .resolve => Sys2Proof.Machine.execResolve s
  | .translate => Sys2Proof.Machine.execTranslate s
  | .memRead => Sys2Proof.Machine.execMemRead s
  | .memWrite => Sys2Proof.Machine.execMemWrite s
  | .fetchWindow => Sys2Proof.Machine.execFetchWindow s
  | .writePdBase => Sys2Proof.Machine.execWritePdBase s
  | .flushCache => Sys2Proof.Machine.execFlushCache s
  | .setA20 => Sys2Proof.Machine.execSetA20 s
  | .reset => Sys2Proof.Machine.execReset s

end Sys2Proof.Machine
end

