-- ==== Sys2Proof/Machine/Protocol.lean ====
section
/-! DEFINITION. The operand protocol: how the instruction specializer drives the block for one CPU instruction, from the
opcode bytes to the epilog (45_port_ops.md §3, R259 to R265; order of faults R277). The handler's part is an input. -/

namespace Sys2Proof.Machine

/-- The r/m operand of a specifier; a memory-offset operand is one that is memory only (R219). -/
def rmOperand : Specifier → Option RmOperand
  | .none => none
  | .memoryOffset width dir => some (.location .memoryOnly width dir)
  | .full _ _ rm => some rm
  | .onlyExtraDigit rm => some rm

/-- Step (1) and (2) of R260: the location of the r/m operand and the `reg` field, the specifier's bytes consumed. A
memory-offset operand takes its offset as an immediate of the address size, default segment DS (R219); that this immediate
stands before the others is the model's choice (DESIGN CHOICE, log 36). -/
def locate (spec : Specifier) (s : State) : Res (Option (Location × RegIdx)) :=
  match spec with
  | .none => .ok none s
  | .memoryOffset _ _ =>
    if s.addressSize32 then (fetch32 s).bind fun d s => .ok (some (s.memLocation .ds d, 0)) s
    else (fetch16 s).bind fun d s => .ok (some (s.memLocation .ds (zext16 d), 0)) s
  | .full _ _ _ => (resolve s).bind fun a s => .ok (some a) s
  | .onlyExtraDigit _ => (resolve s).bind fun a s => .ok (some a) s

/-- Whether the descriptor allows the location that was encoded, right after the resolve (R261, R272): a register form of a
memory-only or effective-address-only operand is an AddressingFault; a memory form of a register-only operand is refused
(U6), and so is a far pointer (U8). -/
def checkOperand (rm : Option RmOperand) (loc : Option (Location × RegIdx)) (s : State) : Res Unit :=
  match rm, loc with
  | some (.location .memoryOnly _ _), some (.register _, _) => .fault .addressingFault
  | some .effectiveAddress, some (.register _, _) => .fault .addressingFault
  | some (.location .registerOnly _ _), some (.memory _ _ _, _) => .refused .registerOnlyMemoryForm
  | some .farPointer, _ => .refused .farPointerSplit
  | _, _ => .ok () s

/-- An immediate of 1, 2 or 4 bytes (R98, R260 step (3)). -/
def fetchImmediate (w : RegWidth) (s : State) : Res Nat :=
  match w with
  | .one => (fetch8 s).bind fun v s => .ok v.toNat s
  | .two => (fetch16 s).bind fun v s => .ok v.toNat s
  | .four => (fetch32 s).bind fun v s => .ok v.toNat s

/-- The immediates, in stream order, after the displacement (R260 step (3)). -/
def fetchImmediates : List RegWidth → State → Res (List Nat)
  | [], s => .ok [] s
  | w :: ws, s =>
    (fetchImmediate w s).bind fun v s => (fetchImmediates ws s).bind fun vs s => .ok (v :: vs) s

/-- Read the value at a location: `RegLoc(w, i)` or `MemRead(linear, w, Read)` (R262). -/
def readLocation (w : Width) (loc : Location) (s : State) : Res Nat :=
  match loc with
  | .register i =>
    match w.toReg? with
    | some rw => .ok (readReg rw i s) s
    | none => .refused .otherRegisterFile
  | .memory _ _ linear => (memRead linear w.bytes .read s).bind fun bytes s => .ok (leValue bytes) s

/-- Write a value back to a location: `RegLoc(w, i) <- t` or `MemWrite(linear, w, t)` (R262). -/
def writeLocation (w : Width) (loc : Location) (v : Nat) (s : State) : Res Unit :=
  match loc with
  | .register i =>
    match w.toReg? with
    | some rw => .ok () (writeReg rw i v s)
    | none => .refused .otherRegisterFile
  | .memory _ _ linear => memWrite linear (leBytes w.bytes v) s

/-- Load an operand: its current value if it is input or inout, nothing of a pure output (R262). -/
def loadOperand (w : Width) (dir : Direction) (loc : Location) (s : State) : Res (Option Nat) :=
  if dir.reads then (readLocation w loc s).bind fun v s => .ok (some v) s else .ok none s

/-- Write an operand back, if the handler declares it output or inout (R262). -/
def storeOperand (w : Width) (dir : Direction) (loc : Location) (v : Nat) (s : State) : Res Unit :=
  if dir.writes then writeLocation w loc v s else .ok () s

/-- Load the r/m operand, or take the offset itself of an effective-address-only one (R218, R262). -/
def loadRm (rm : Option RmOperand) (loc : Option (Location × RegIdx)) (s : State) : Res (Option Nat) :=
  match rm, loc with
  | some (.location _ w dir), some (l, _) => loadOperand w dir l s
  | some .effectiveAddress, some (.memory _ offset _, _) => .ok (some offset.toNat) s
  | _, _ => .ok none s

/-- Write the r/m operand back, to the location found before the handler ran (R262, R263). -/
def storeRm (rm : Option RmOperand) (loc : Option (Location × RegIdx)) (v : Nat) (s : State) : Res Unit :=
  match rm, loc with
  | some (.location _ w dir), some (l, _) => storeOperand w dir l v s
  | _, _ => .ok () s

/-- Where an implicit memory operand is: base plus offset, in the segment its procedure chose (D36, R214). No part of a cycle
writes a base or the pair, so this is one location before and after the handler (R263). -/
def ImplicitOperand.location (o : ImplicitOperand) (s : State) : Location := .memory o.seg o.offset (s.linear o.seg o.offset)

/-- Load the implicit memory operands, in order (R256, R260, R262). -/
def loadImplicits : List ImplicitOperand → State → Res (List (Option Nat))
  | [], s => .ok [] s
  | o :: os, s =>
    (loadOperand o.width o.dir (o.location s) s).bind fun v s => (loadImplicits os s).bind fun vs s => .ok (v :: vs) s

/-- Write the implicit memory operands back, in order; a PageFault keeps those before it (R257, R262, R280, R317, log 23). -/
def storeImplicits : List ImplicitOperand → List Nat → State → Res Unit
  | o :: os, v :: vs, s => (storeOperand o.width o.dir (o.location s) v s).bind fun _ s => storeImplicits os vs s
  | _, _, s => .ok () s

/-- The value of a fixed register operand, if it is read (R260, R262). -/
def loadFixed (s : State) (o : FixedOperand) : Option Nat :=
  if o.dir.reads then some (readReg o.width o.index s) else none

/-- Write the fixed register operands back, in descriptor order (R262, log 23). -/
def storeFixed : List FixedOperand → List Nat → State → State
  | o :: os, v :: vs, s => storeFixed os vs (if o.dir.writes then writeReg o.width o.index v s else s)
  | _, _, s => s

/-- The value of the reg-field operand of a `/r` form, if it is read (R92, R260). -/
def loadRegField (spec : Specifier) (loc : Option (Location × RegIdx)) (s : State) : Option Nat :=
  match spec, loc with
  | .full w dir _, some (_, reg) => if dir.reads then some (readReg w reg s) else none
  | _, _ => none

/-- Write the reg-field operand of a `/r` form back (R262, log 23). -/
def storeRegField (spec : Specifier) (loc : Option (Location × RegIdx)) (v : Nat) (s : State) : State :=
  match spec, loc with
  | .full w dir _, some (_, reg) => if dir.writes then writeReg w reg v s else s
  | _, _ => s

/-- One maintenance operation the handler causes, with the effect of the port operation (R250 to R252, R254, R263). -/
def runMaintenance (op : MaintenanceOp) (s : State) : Res Unit :=
  match op with
  | .writePdBase v => writePdBase v s
  | .flushCache => .ok () (flushCache s)
  | .setA20 enabled => .ok () (setA20 enabled s)

/-- The maintenance operations of the handler, in its order (R263). -/
def runMaintenances : List MaintenanceOp → State → Res Unit
  | [], s => .ok () s
  | op :: ops, s => (runMaintenance op s).bind fun _ s => runMaintenances ops s

/-- The registers and the flags word the handler changes by itself (R42, R262). -/
def applyWrites (h : HandlerAnswer) (s : State) : State :=
  (h.gprWrites.foldl (fun t w => t.setGpr32 w.1 w.2) s).setFlags h.flags

/-- What the handler does between the reads and the write-backs: "the handler itself causes a `WritePdBase` or `FlushCache`"
(R263), and registers and flags (R42, R262). Neither part can see the other, so their order is no choice (log 22). -/
def applyHandler (h : HandlerAnswer) (s : State) : Res Unit :=
  (runMaintenances h.operations s).bind fun _ s => .ok () (applyWrites h s)

/-- The epilog: "segOverride <- None", and the size-mode bits back to the code segment's defaults (R265). -/
def epilog (s : State) : State := (s.setOverride none).setSizes s.defaultAddressSize32 s.defaultOperandSize32

/-- One CPU instruction after its opcode has been found, in the order of R259, R260 and R277: opcode bytes, location, check,
immediates, operand reads ("the reg-field or implicit operand before the r/m operand", R277), handler, write-backs (in the
order of log 23; one that faults leaves those before it committed, R280, R317), IP, epilog. DESIGN CHOICE (log 36): the offset of a memory-offset operand, an
immediate itself (R219), is consumed with the location and so before the descriptor's other immediates; R260 orders those
only after a displacement. -/
def runInstruction (d : Descriptor) (h : HandlerAnswer) (s : State) : Res OperandValues :=
  (skipBytes d.opcodeLen s).bind fun _ s =>
  (locate d.specifier s).bind fun loc s =>
  (checkOperand (rmOperand d.specifier) loc s).bind fun _ s =>
  (fetchImmediates d.immediates s).bind fun imms s =>
  (loadImplicits d.implicit s).bind fun implicitValues s =>
  (loadRm (rmOperand d.specifier) loc s).bind fun rmValue s =>
    let values : OperandValues :=
      { fixed := d.fixed.map (loadFixed s), implicit := implicitValues, reg := loadRegField d.specifier loc s, rm := rmValue,
        immediates := imms }
    (applyHandler h s).bind fun _ s =>
      let stored := storeRegField d.specifier loc h.reg (storeFixed d.fixed h.fixed s)
      (storeImplicits d.implicit h.implicit stored).bind fun _ s =>
      (storeRm (rmOperand d.specifier) loc h.rm s).bind fun _ s => .ok values (epilog s.advanceIp)

/-- Slot index = (addressSize32 ? 2 : 0) | (operandSize32 ? 1 : 0) (R37, R274). -/
def slotIndex (s : State) : Fin 4 :=
  match s.addressSize32, s.operandSize32 with
  | false, false => 0
  | false, true => 1
  | true, false => 2
  | true, true => 3

/-- The dispatch of a fetched, non-prefix instruction: DecodeFault, else UnimplementedSizeFault, else the operand protocol
(R273, R274, R277). -/
def dispatchOpcode (a : DispatchAnswer) (s : State) : StepResult :=
  match a with
  | .noEntry n => .fault (.decodeFault (s.win.take (n.val + 1)))
  | .entry procedures h =>
    match procedures.get (slotIndex s) with
    | some d => (runInstruction d h s).toOutcome fun values t => t.setOut (.operands values)
    | none => .fault (.unimplementedSize (slotIndex s).val)

/-- The linear address of the instruction fetch, "(SegBase(CS) + IP) mod 2^32" (R220). -/
def fetchAddress (s : State) : Word := s.linear .cs s.ip

/-! ### Writes of the collaborators -/

def State.setIp (s : State) (v : Word) : State := { s with ip := v }

def State.setDefaults (s : State) (address32 operand32 : Bool) : State :=
  { s with defaultAddressSize32 := address32, defaultOperandSize32 := operand32 }

/-- What a collaborator does to the consumed state or to memory between two operations (log 27). -/
def applyCollaborator (w : CollaboratorWrite) (s : State) : StepResult :=
  match w with
  | .gpr i v => .next (s.setGpr32 i v)
  | .segBase seg v => .next (s.setSegBase seg v)
  | .ip v => .next (s.setIp v)
  | .flags v => .next (s.setFlags v)
  | .decodeContext override da dop a op => .next (((s.setOverride override).setDefaults da dop).setSizes a op)
  | .load p bytes => (physWrite p bytes s).toOutcome fun _ t => t

end Sys2Proof.Machine
end

