-- ==== Sys2Proof/Machine/Serve.lean ====
section
/-! DEFINITION. How one request of the surrounding machine is served (log 12): an instruction of the block decoded and run, a
CPU instruction's dispatch cycle, or a collaborator's write. `Step` calls it. -/

namespace Sys2Proof.Machine

def State.setRequests (s : State) (rs : List Request) : State := { s with requests := rs }

def State.setArgs (s : State) (a : PortArguments) : State := { s with args := a }

/-- Present the arguments of a port operation; the other sources have none. -/
def presentArguments (src : Source) (s : State) : State :=
  match src with
  | .command _ a => s.setArgs a
  | .specifier => s
  | .prefixByte => s

/-- The decoder's reading of a source: a port code, or the bytes of the window from the cursor on, an operand specifier in
the current address size (R100). -/
def decodeSource (src : Source) (s : State) : Decoded :=
  match src with
  | .command code _ => decodePort code
  | .specifier => decodeSpecifier s.addressSize32 (s.win.drop s.cursor)
  | .prefixByte => decodePrefix (s.win.drop s.cursor)

/-- What a rejected source means for the run: the window overrun (R99), or a malformed request (log 13). -/
def refusalOf : DecodeError → Refusal
  | .windowEnds => .windowOverrun
  | .notSibForm _ => .noSuchCommand
  | .notPrefix _ => .notAPrefix
  | .noPortCode _ => .noSuchCommand

/-- Decode a source and run the instruction it gives, if its arguments are well formed. -/
def runSource (src : Source) (s : State) : StepResult :=
  match decodeSource src s with
  | .ok i _ => if i.wellFormed (presentArguments src s).args then exec i (presentArguments src s)
               else .refused .noSuchCommand
  | .reject e => .refused (refusalOf e)

/-- One CPU instruction's dispatch cycle (R259, R277): fetch the window at CS:IP; a PageFault there is the first event there
is. A prefix byte is an instruction of its own (R41, R101, R265), after which the cycle is still to come (log 20); any other
byte is the opcode the catalog has answered for. -/
def runCycle (a : DispatchAnswer) (s : State) : StepResult :=
  match fetchWindow (fetchAddress s) s with
  | .ok _ t =>
    match decodePrefix t.win with
    | .ok i _ => exec i (t.setRequests (.cycle a :: t.requests))
    | .reject _ => dispatchOpcode a t
  | .pageFault addr kind t => .next (signalPageFault addr kind t)
  | .fault x => .fault x
  | .refused x => .refused x

/-- Serve one request. -/
def serve (r : Request) (s : State) : StepResult :=
  match r with
  | .decode src => runSource src s
  | .cycle a => runCycle a s
  | .collaborator w => applyCollaborator w s

end Sys2Proof.Machine
end

