-- ==== Sys2Proof/Machine/Step.lean ====
section
/-! DEFINITION. The step of the block: it serves the oldest request, or idles (60_exceptions.md R290). And the placing of one
table word where the step takes its next instruction from. -/

namespace Sys2Proof.Machine

/-- One step: the oldest request is taken off and served (log 12); with none pending the block is "idle between operations"
and "nothing is lost while idle" (R290). -/
def step (s : State) : Host.Outcome State Fault Refusal :=
  match s.requests with
  | [] => .next s
  | r :: rest => serve r (s.setRequests rest)

/-- `s` with the instruction of a table word where the next step takes it from: the bytes at the head of the window, the
cursor there, the address size of the word's row format, and the request to run it (log 12, 14, 15); a port code as the
request itself, with the idle arguments. -/
def State.withFetchWord (s : State) (nbits w : Nat) : State :=
  let win := tableBytes nbits w ++ List.replicate (windowLen - (tableBytes nbits w).length) 0
  if nbits ≤ 4 then s.setRequests (.decode (.command (BitVec.ofNat 4 w) .idle) :: s.requests)
  else if nbits ≤ 8 then
    match decodePrefix win with
    | .ok _ _ => (s.setWindow win).setRequests (.decode .prefixByte :: s.requests)
    | .reject _ => ((s.setWindow win).setSizes false s.operandSize32).setRequests (.decode .specifier :: s.requests)
  else ((s.setWindow win).setSizes true s.operandSize32).setRequests (.decode .specifier :: s.requests)

end Sys2Proof.Machine
end

