-- ==== Sys2Proof/Safety.lean ====
section
/-! DEFINITION. What a safe run is, in the terms of the claims: the invariant every step keeps, and a run without the
terminal faults of 60_exceptions.md R291. -/

namespace Sys2Proof.Machine

/-- The invariant of the block: the parameters meet R6; pdBase is a multiple of 4096 (R21); the A20 mask has one of its two
values (R23); the translation cache has the form of R24; the backing store is in canonical form and within PHYS_SIZE (R27);
the window holds 16 bytes and the cursor is an index 0 to 16 of it (R38, R39). -/
abbrev State.Inv (s : State) : Prop :=
  s.cfg.wf ∧ s.pdBase &&& 0xFFF#32 = 0#32 ∧ (s.a20Mask = 0x000FFFFF#32 ∨ s.a20Mask = 0xFFFFFFFF#32) ∧
    Tcache.wf s.tcache = true ∧ Memory.wf s.cfg.physSize s.pmem = true ∧ s.win.length = windowLen ∧ s.cursor ≤ windowLen

/-- `t` is reached from `s` in `k` steps, none of them a fault or a refusal. -/
def ReachedIn : Nat → State → State → Prop
  | 0, s, t => s = t
  | k + 1, s, t => ∃ m, step s = .next m ∧ ReachedIn k m t

/-- "the faulted state is never final": a run is safe when no state it reaches steps to a terminal fault (R291). -/
def SafeRun (s : State) : Prop := ∀ k t f, ReachedIn k s t → step t ≠ .fault f

end Sys2Proof.Machine
end

