-- ==== Sys2Proof/Certificates/Slice0/Obligations.lean ====
section
/-! DEFINITION. The statements for the provers, each from the numbered rules of spec/ or from a section of it, with the words
they are written in. The right-hand sides are in numbers (remainders, quotients), not in the model's bit operations, so that a
statement says again what the rule says. -/

namespace Sys2Proof.Claims

open Sys2Proof Sys2Proof.Machine

/-- `GPR32[i]` as a number (R30). -/
def r32 (s : State) (i : RegIdx) : Nat := (s.gpr.get i.toFin).toNat

/-- `GPR16[i]` as a number, the low half of `GPR32[i]` (R31). -/
def r16 (s : State) (i : RegIdx) : Nat := r32 s i % 2 ^ 16

/-- A displacement byte as a signed number modulo 2^w (R97). -/
def sext (w d : Nat) : Nat := if d < 128 then d else d + 2 ^ w - 256

/-- The pending override, or the default (R212). -/
def segOf (s : State) (dflt : Seg) : Seg :=
  match s.segOverride with
  | some g => g
  | none => dflt

/-- The memory result of an offset: segment, offset, and base plus offset modulo 2^32 (R212, R214). -/
def memoryAt (s : State) (dflt : Seg) (offset : Nat) : Location :=
  .memory (segOf s dflt) (BitVec.ofNat 32 offset) (BitVec.ofNat 32 ((s.baseOf (segOf s dflt)).toNat + offset))

/-- `s` after a resolve of `len` bytes: cursor and answer, nothing else. -/
def resolved (s : State) (len : Nat) (loc : Location) (reg : RegIdx) : State :=
  { s with cursor := s.cursor + len, out := .location loc reg }

/-- One form rule of 40_resolver16.md or 41_resolver32.md. Encoding: a ModR/M byte that matches under mask 0xC7 and
`dispLen` displacement bytes decode to the form, whatever follows. Meaning: the form answers the memory result of its offset
and consumes 1 + `dispLen` bytes; nothing else changes. `d` is the displacement as an unsigned number. -/
def formRule (a32 : Bool) (matched : Byte) (dispLen : Nat) (i : RegIdx → Nat → Instr) (dflt : Seg)
    (offset : State → Nat → Nat) : Prop :=
  (∀ (m : Byte) (disp rest : List Byte), m &&& 0xC7#8 = matched → disp.length = dispLen →
    decodeSpecifier a32 (m :: (disp ++ rest)) = .ok (i (m.extractLsb' 3 3) (leValue disp)) rest) ∧
  (∀ (reg : RegIdx) (d : Nat) (s : State), d < 256 ^ dispLen → s.cursor + (1 + dispLen) ≤ windowLen →
    exec (i reg d) s = .next (resolved s (1 + dispLen) (memoryAt s dflt (offset s d)) reg))

/-- The index term of a SIB byte (R181). -/
def sibTerm (s : State) (index : RegIdx) (scale : BitVec 2) : Nat :=
  if index = 4 then 0 else r32 s index * 2 ^ scale.toNat % 2 ^ 32

/-- The default segment for a base register: SS for EBP; for ESP the parameter ESP_BASE_DEFAULT_SEG, which is SS unless set
otherwise (R6, R191); else DS. -/
def baseSeg (s : State) (base : RegIdx) : Seg :=
  if base = 5 then .ss
  else if base = 4 then (match s.cfg.espBaseDefaultSeg with | .ss => .ss | .ds => .ds)
  else .ds

/-- One class of SIB form, 42_resolver32_sib.md §2: the forms with this `mod` whose base and index the class admits.
Encoding: the 16-bit number `(modrm << 8) | sib` that matches under mask 0xC73F, and `dispLen` displacement bytes, decode to
the form with these fields. Meaning as in `formRule`, the offset given by base, index, scale and displacement. -/
def sibRule (mod : BitVec 2) (dispLen : Nat) (admits : RegIdx → RegIdx → Prop) (dflt : State → RegIdx → Seg)
    (offset : State → RegIdx → RegIdx → BitVec 2 → Nat → Nat) : Prop :=
  (∀ (m sib : Byte) (base index : RegIdx) (disp rest : List Byte), admits base index → disp.length = dispLen →
    (m ++ sib) &&& 0xC73F#16 = BitVec.ofNat 16 (0x0400 + 0x4000 * mod.toNat + 8 * index.toNat + base.toNat) →
    ∃ i, decodeSpecifier true (m :: sib :: (disp ++ rest)) = .ok i rest ∧
      i.sibFields = some ⟨mod, base, index, m.extractLsb' 3 3, sib.extractLsb' 6 2, disp⟩) ∧
  (∀ (i : Instr) (f : SibFields) (s : State), i.sibFields = some f → f.mod = mod → admits f.base f.index →
    s.cursor + (2 + dispLen) ≤ windowLen →
    exec i s = .next (resolved s (2 + dispLen)
      (memoryAt s (dflt s f.base) (offset s f.base f.index f.scale (leValue f.disp))) f.reg))

/-- The displacement bytes after a SIB byte (R95). -/
def sibDispLen (mod : BitVec 2) (base : RegIdx) : Nat :=
  if mod = 1 then 1 else if mod = 2 then 4 else if base = 5 then 4 else 0

/-- R173 for one `mod`: an escape byte is followed by a SIB byte, and the form is the M32S form of both. -/
def escapeRule (mod : BitVec 2) (escape : RegIdx → Instr) : Prop :=
  (∀ (m : Byte) (rest : List Byte), m &&& 0xC7#8 = modrmByte mod 0 4 →
    decode .m32 (m :: rest) = .ok (escape (m.extractLsb' 3 3)) rest) ∧
  (∀ (m sib : Byte) (rest : List Byte), m &&& 0xC7#8 = modrmByte mod 0 4 →
    decodeSpecifier true (m :: sib :: rest) = decode .m32s (m :: sib :: rest)) ∧
  (∀ (reg : RegIdx) (sib : Byte) (disp rest : List Byte) (s : State),
    s.win.drop (s.cursor + 1) = sib :: (disp ++ rest) → disp.length = sibDispLen mod (sib.extractLsb' 0 3) →
    s.cursor + (2 + disp.length) ≤ windowLen →
    ∃ j loc, decode .m32s (modrmByte mod reg 4 :: sib :: (disp ++ rest)) = .ok j rest ∧ exec (escape reg) s = exec j s ∧
      exec (escape reg) s = .next (resolved s (2 + disp.length) loc reg))

/-- `i` is an operand specifier or `Resolve`. -/
def resolves (i : Instr) : Prop := i.modrmFields ≠ none ∨ i.sibFields ≠ none ∨ i = .resolve

/-- The bytes a page-table entry stands in, as a number (R232, R234). -/
def entryAt (s : State) (a : Nat) : Nat := leValue (Memory.readBytes s.pmem a 4)

/-- Where a walk of linear address `l` reads its directory entry (R230). -/
def pdeAddress (s : State) (l : Word) : Nat := s.pdBase.toNat + 4 * (l.toNat / 2 ^ 22)

/-- Where a walk of linear address `l` reads its table entry, given the directory entry (R230, R234). -/
def pteAddress (pde : Nat) (l : Word) : Nat := pde / 4096 * 4096 + 4 * (l.toNat / 4096 % 1024)

/-- The physical address of linear address `l` where no walk is needed: paging off, or its page cached (R227, R229). -/
def physOf (s : State) (l : Word) : Option Word :=
  if s.pdBase = 0 then some (l &&& s.a20Mask)
  else (Tcache.find? s.tcache (l.toNat / 4096)).map fun base => base + BitVec.ofNat 32 (l.toNat % 4096)

/-- Linear address `l` is the byte at `p` of the backing store, reached without a walk and outside the VRAM window (R71). -/
def storeByteAt (s : State) (l p : Word) : Prop :=
  physOf s l = some p ∧ ¬ (s.cfg.vramBase ≤ p.toNat ∧ p.toNat < s.cfg.vramBase + s.cfg.vramSize) ∧ p.toNat < s.cfg.physSize

/-- Store byte i of `v` at address `p i`, for i = 0 to n-1 in this order (R66). -/
def storeEach (m : List Host.Cell) (p : Nat → Word) (n v : Nat) : List Host.Cell :=
  (List.range n).foldl (fun m i => Memory.write m (p i).toNat (BitVec.ofNat 8 (v / 256 ^ i))) m

/-- The physical addresses a straddling `MemWrite` stores to in the backing store, byte by byte, each with the state its
translation meets (R65, R257). -/
def straddlingTargets : List Byte → Word → State → List Nat
  | [], _, _ => []
  | b :: bs, l, s =>
    match translate l .write s with
    | .ok p u =>
      (if inVram u.cfg p then [] else [p.toNat]) ++
        (match storeBytes p [b] u with
         | .ok _ v => straddlingTargets bs (l + 1) v
         | .pageFault _ _ _ => []
         | .fault _ => []
         | .refused _ => [])
    | .pageFault _ _ _ => []
    | .fault _ => []
    | .refused _ => []

/-- The physical addresses a `MemWrite` stores to in the backing store (R257). -/
def storeTargets (l : Word) (bytes : List Byte) (s : State) : List Nat :=
  if straddles l bytes.length then straddlingTargets bytes l s
  else
    match translate l .write s with
    | .ok p u => if inVram u.cfg p then [] else (List.range bytes.length).map (p.toNat + ·)
    | .pageFault _ _ _ => []
    | .fault _ => []
    | .refused _ => []

/-- A dispatch cycle stands first in the queue, its window fetch from (SegBase(CS) + IP) completes with `win`, `t` is the
state after the fetch, and no prefix byte stands at the head of the window (R220, R258, R265). -/
def fetched (s : State) (answer : DispatchAnswer) (rest : List Request) (win : List Byte) (t : State) : Prop :=
  s.requests = .cycle answer :: rest ∧
  fetchWindow (s.baseOf .cs + s.ip) { s with requests := rest } = .ok win t ∧
  ∀ i left, decodePrefix win ≠ .ok i left

/-- The number of the active size-mode slot (R37). -/
def slotNumber (s : State) : Nat := (if s.addressSize32 then 2 else 0) + (if s.operandSize32 then 1 else 0)

/-- The dispatch finds procedure `d` in the active slot, and the handler answers `h` (R274). -/
def dispatches (s : State) (d : Descriptor) (h : HandlerAnswer) (rest : List Request) (win : List Byte) (t : State) : Prop :=
  ∃ procedures : Vector (Option Descriptor) 4,
    fetched s (.entry procedures h) rest win t ∧ procedures[slotNumber s]? = some (some d)

/-- The read of a temp-required operand at `loc` (R262): `before` and `after` are the states around it. -/
def loads (loc : Location) (w : Width) (dir : Direction) (value : Option Nat) (before after : State) : Prop :=
  if dir = .output then value = none ∧ after = before
  else
    match loc with
    | .register i => ∃ rw, w.toReg? = some rw ∧ value = some (readReg rw i before) ∧ after = before
    | .memory _ _ linear => ∃ bytes, memRead linear w.bytes .read before = .ok bytes after ∧ value = some (leValue bytes)

/-- The write-back of a temp-required operand to `loc` (R262). -/
def stores (loc : Location) (w : Width) (dir : Direction) (value : Nat) (before after : State) : Prop :=
  if dir = .input then after = before
  else
    match loc with
    | .register i => ∃ rw, w.toReg? = some rw ∧ after = writeReg rw i value before
    | .memory _ _ linear => memWrite linear (leBytes w.bytes value) before = .ok () after

/-- Where the specifier's operand is found, and with which `reg` field: by `Resolve`, or by the memory offset in the stream, as
wide as the address size (R219, R260); `before` and `after` are the states around it. -/
def located (spec : Specifier) (loc : Option (Location × RegIdx)) (before after : State) : Prop :=
  match spec with
  | .none => loc = none ∧ after = before
  | .memoryOffset _ _ =>
    ∃ disp left, before.win.drop before.cursor = disp ++ left ∧ disp.length = (if before.addressSize32 then 4 else 2) ∧
      loc = some (memoryAt before .ds (leValue disp), 0) ∧ after = { before with cursor := before.cursor + disp.length }
  | .full _ _ _ => ∃ l reg, resolve before = .ok (l, reg) after ∧ loc = some (l, reg)
  | .onlyExtraDigit _ => ∃ l reg, resolve before = .ok (l, reg) after ∧ loc = some (l, reg)

/-- Whether an operand kind allows a location (R261). -/
def allows (kind : LocationKind) (loc : Location) : Prop :=
  match kind, loc with
  | .memoryOnly, .register _ => False
  | .registerOnly, .memory _ _ _ => False
  | _, _ => True

/-- The value of the r/m operand: none where there is no operand, the offset of an effective-address-only one (R218), else what
is at the location (R262). -/
def operandLoads (rm : Option RmOperand) (loc : Option (Location × RegIdx)) (value : Option Nat) (before after : State) : Prop :=
  match rm, loc with
  | none, _ => value = none ∧ after = before
  | some .effectiveAddress, some (.memory _ offset _, _) => value = some offset.toNat ∧ after = before
  | some (.location kind w dir), some (l, _) => allows kind l ∧ loads l w dir value before after
  | _, _ => False

/-- The write-back of the r/m operand (R262); an effective-address-only one has none (R218). -/
def operandStores (rm : Option RmOperand) (loc : Option (Location × RegIdx)) (value : Nat) (before after : State) : Prop :=
  match rm, loc with
  | some (.location _ w dir), some (l, _) => stores l w dir value before after
  | _, _ => after = before

/-- Where an implicit memory operand is: base plus offset modulo 2^32 in the segment its procedure chose (R214). -/
def implicitAt (s : State) (o : ImplicitOperand) : Location :=
  .memory o.seg o.offset (BitVec.ofNat 32 ((s.baseOf o.seg).toNat + o.offset.toNat))

/-- The reads of the implicit memory operands, one after the other (R260, R262). -/
def implicitLoads : List ImplicitOperand → List (Option Nat) → State → State → Prop
  | [], values, before, after => values = [] ∧ after = before
  | _ :: _, [], _, _ => False
  | o :: os, v :: vs, before, after =>
    ∃ mid, loads (implicitAt before o) o.width o.dir v before mid ∧ implicitLoads os vs mid after

/-- The write-backs of the implicit memory operands, one after the other (R262). -/
def implicitStores : List ImplicitOperand → List Nat → State → State → Prop
  | o :: os, v :: vs, before, after =>
    ∃ mid, stores (implicitAt before o) o.width o.dir v before mid ∧ implicitStores os vs mid after
  | _, _, before, after => after = before

/-- How many bytes the immediates take, and their values, little-endian, in stream order (R98, R260). -/
def immediateBytes (ws : List RegWidth) : Nat := (ws.map RegWidth.bytes).sum

def immediateValues : List RegWidth → List Byte → List Nat
  | [], _ => []
  | w :: ws, bytes => leValue (bytes.take w.bytes) :: immediateValues ws (bytes.drop w.bytes)

/-- `s` after a maintenance operation the handler causes (R250, R252, R254, R263). -/
def afterMaintenance (s : State) : MaintenanceOp → State
  | .writePdBase v => { s with pdBase := v, tcache := [] }
  | .flushCache => { s with tcache := [] }
  | .setA20 enabled => { s with a20Mask := if enabled then 0xFFFFFFFF#32 else 0x000FFFFF#32 }

/-- `s` after the handler: its maintenance operations, the registers it changes itself, its flags (R42, R262, R263). -/
def afterHandler (h : HandlerAnswer) (s : State) : State :=
  { h.operations.foldl afterMaintenance s with
    gpr := h.gprWrites.foldl (fun g p => g.set p.1.toFin.val p.2 p.1.toFin.isLt) s.gpr, flags := h.flags }

/-- `s` after the write-back of the fixed register operands and of the reg-field operand (R90, R262, R263). -/
def registersWrittenBack (d : Descriptor) (h : HandlerAnswer) (loc : Option (Location × RegIdx)) (s : State) : State :=
  let t := (d.fixed.zip h.fixed).foldl (fun t p => if p.1.dir = .input then t else writeReg p.1.width p.1.index p.2 t) s
  match d.specifier, loc with
  | .full w dir _, some (_, reg) => if dir = .input then t else writeReg w reg h.reg t
  | _, _ => t

/-- The values handed to the handler (R262), registers as state `s` holds them; a pure output has none. -/
def valuesFrom (d : Descriptor) (loc : Option (Location × RegIdx)) (implicit : List (Option Nat)) (rm : Option Nat)
    (imm : List Byte) (s : State) : OperandValues :=
  { fixed := d.fixed.map fun o => if o.dir = .output then none else some (readReg o.width o.index s)
    implicit := implicit
    reg := match d.specifier, loc with
      | .full w dir _, some (_, reg) => if dir = .output then none else some (readReg w reg s)
      | _, _ => none
    rm := rm
    immediates := immediateValues d.immediates imm }

/-- The access of n bytes at `l`, whose translation meets state `s`, cannot be made: the walk of its page reads beyond PHYS_SIZE
(R232), or the access itself lies outside the VRAM window and reaches beyond PHYS_SIZE (R67). -/
def outOfRange (l : Word) (n : Nat) (kind : AccessKind) (s : State) : Prop :=
  (∃ r, translate l kind s = .refused r) ∨
  ∃ p u, translate l kind s = .ok p u ∧ inVram s.cfg p = false ∧ s.cfg.physSize < p.toNat + n

/-- The dispatch cycle of `s` finds procedure `d` and comes to state `v` with every operand read: opcode bytes passed, r/m operand
located at `loc`, immediates `imm` consumed, implicit operands read as `implicit`, then the r/m operand as `rm` (R260, R277). -/
def operandsRead (s : State) (d : Descriptor) (h : HandlerAnswer) (rest : List Request) (loc : Option (Location × RegIdx))
    (imm : List Byte) (implicit : List (Option Nat)) (rm : Option Nat) (v : State) : Prop :=
  ∃ (win left : List Byte) (t u mid : State),
    dispatches s d h rest win t ∧ d.opcodeLen ≤ 16 ∧ located d.specifier loc { t with cursor := d.opcodeLen } u ∧
    u.win.drop u.cursor = imm ++ left ∧ imm.length = immediateBytes d.immediates ∧
    implicitLoads d.implicit implicit { u with cursor := u.cursor + imm.length } mid ∧
    operandLoads (rmOperand d.specifier) loc rm mid v

/-- Every `WritePdBase` the handler causes has a value that is a multiple of 4096 (R251). -/
def basesAligned (h : HandlerAnswer) : Prop := ∀ b, .writePdBase b ∈ h.operations → b.toNat % 4096 = 0

/-- The write-back of n bytes at `l` from state `y` raises PageFault(a, Write) and leaves `z`: the cycle of `s` signals it, IP is
unchanged, and every byte of memory outside those this write-back itself reached is as `y` has it. -/
def stopsIn (s y z : State) (l a : Word) (kind : AccessKind) (bytes : List Byte) : Prop :=
  kind = .write ∧ step s = .next { z with out := .pageFault a .write } ∧ z.ip = s.ip ∧
    ∀ b, b ∉ storeTargets l bytes y → Memory.read z.pmem b = Memory.read y.pmem b

/-- `t` after the instruction-pointer update and the epilog (R264, R265). -/
def retired (t : State) (ipStart : Word) (values : OperandValues) : State :=
  { t with ip := ipStart + BitVec.ofNat 32 t.cursor, segOverride := none, addressSize32 := t.defaultAddressSize32,
           operandSize32 := t.defaultOperandSize32, out := .operands values }

end Sys2Proof.Claims

section

open Sys2Proof Sys2Proof.Machine Sys2Proof.Claims

/-- R121 to R128, the 16-bit forms with mod = 0: `[BX+SI]`, `[BX+DI]`, `[BP+SI]`, `[BP+DI]`, `[SI]`, `[DI]`, `[d16]`, `[BX]`.
(The register combinations are marked general knowledge in spec/.) -/
def Obligations.Form16WithoutBaseDisplacement : Prop :=
  formRule false 0x00 0 (fun reg _ => .a16M0Rm0 reg) .ds (fun s _ => (r16 s 3 + r16 s 6) % 2 ^ 16) ∧
  formRule false 0x01 0 (fun reg _ => .a16M0Rm1 reg) .ds (fun s _ => (r16 s 3 + r16 s 7) % 2 ^ 16) ∧
  formRule false 0x02 0 (fun reg _ => .a16M0Rm2 reg) .ss (fun s _ => (r16 s 5 + r16 s 6) % 2 ^ 16) ∧
  formRule false 0x03 0 (fun reg _ => .a16M0Rm3 reg) .ss (fun s _ => (r16 s 5 + r16 s 7) % 2 ^ 16) ∧
  formRule false 0x04 0 (fun reg _ => .a16M0Rm4 reg) .ds (fun s _ => (r16 s 6) % 2 ^ 16) ∧
  formRule false 0x05 0 (fun reg _ => .a16M0Rm5 reg) .ds (fun s _ => (r16 s 7) % 2 ^ 16) ∧
  formRule false 0x06 2 (fun reg d => .a16M0Rm6 reg (BitVec.ofNat 16 d)) .ds (fun _ d => d % 2 ^ 16) ∧
  formRule false 0x07 0 (fun reg _ => .a16M0Rm7 reg) .ds (fun s _ => (r16 s 3) % 2 ^ 16)

/-- R129 to R136, the 16-bit forms with mod = 1: a displacement byte, sign-extended to 16 bits. -/
def Obligations.Form16WithDisp8 : Prop :=
  formRule false 0x40 1 (fun reg d => .a16M1Rm0 reg (BitVec.ofNat 8 d)) .ds (fun s d => (r16 s 3 + r16 s 6 + sext 16 d) % 2 ^ 16) ∧
  formRule false 0x41 1 (fun reg d => .a16M1Rm1 reg (BitVec.ofNat 8 d)) .ds (fun s d => (r16 s 3 + r16 s 7 + sext 16 d) % 2 ^ 16) ∧
  formRule false 0x42 1 (fun reg d => .a16M1Rm2 reg (BitVec.ofNat 8 d)) .ss (fun s d => (r16 s 5 + r16 s 6 + sext 16 d) % 2 ^ 16) ∧
  formRule false 0x43 1 (fun reg d => .a16M1Rm3 reg (BitVec.ofNat 8 d)) .ss (fun s d => (r16 s 5 + r16 s 7 + sext 16 d) % 2 ^ 16) ∧
  formRule false 0x44 1 (fun reg d => .a16M1Rm4 reg (BitVec.ofNat 8 d)) .ds (fun s d => (r16 s 6 + sext 16 d) % 2 ^ 16) ∧
  formRule false 0x45 1 (fun reg d => .a16M1Rm5 reg (BitVec.ofNat 8 d)) .ds (fun s d => (r16 s 7 + sext 16 d) % 2 ^ 16) ∧
  formRule false 0x46 1 (fun reg d => .a16M1Rm6 reg (BitVec.ofNat 8 d)) .ss (fun s d => (r16 s 5 + sext 16 d) % 2 ^ 16) ∧
  formRule false 0x47 1 (fun reg d => .a16M1Rm7 reg (BitVec.ofNat 8 d)) .ds (fun s d => (r16 s 3 + sext 16 d) % 2 ^ 16)

/-- R137 to R144, the 16-bit forms with mod = 2: two displacement bytes, little-endian. -/
def Obligations.Form16WithDisp16 : Prop :=
  formRule false 0x80 2 (fun reg d => .a16M2Rm0 reg (BitVec.ofNat 16 d)) .ds (fun s d => (r16 s 3 + r16 s 6 + d) % 2 ^ 16) ∧
  formRule false 0x81 2 (fun reg d => .a16M2Rm1 reg (BitVec.ofNat 16 d)) .ds (fun s d => (r16 s 3 + r16 s 7 + d) % 2 ^ 16) ∧
  formRule false 0x82 2 (fun reg d => .a16M2Rm2 reg (BitVec.ofNat 16 d)) .ss (fun s d => (r16 s 5 + r16 s 6 + d) % 2 ^ 16) ∧
  formRule false 0x83 2 (fun reg d => .a16M2Rm3 reg (BitVec.ofNat 16 d)) .ss (fun s d => (r16 s 5 + r16 s 7 + d) % 2 ^ 16) ∧
  formRule false 0x84 2 (fun reg d => .a16M2Rm4 reg (BitVec.ofNat 16 d)) .ds (fun s d => (r16 s 6 + d) % 2 ^ 16) ∧
  formRule false 0x85 2 (fun reg d => .a16M2Rm5 reg (BitVec.ofNat 16 d)) .ds (fun s d => (r16 s 7 + d) % 2 ^ 16) ∧
  formRule false 0x86 2 (fun reg d => .a16M2Rm6 reg (BitVec.ofNat 16 d)) .ss (fun s d => (r16 s 5 + d) % 2 ^ 16) ∧
  formRule false 0x87 2 (fun reg d => .a16M2Rm7 reg (BitVec.ofNat 16 d)) .ds (fun s d => (r16 s 3 + d) % 2 ^ 16)

/-- R145 and R172, the register forms, the same in both address sizes: register location `rm`, one byte, no segment whatever
override is pending; the caller reads `RegLoc(w, rm)`, and a memory-only or effective-address-only operand is an
AddressingFault. -/
def Obligations.RegisterForms : Prop :=
  (∀ (a32 : Bool) (m : Byte) (rest : List Byte), m &&& 0xC0#8 = 0xC0#8 →
    decodeSpecifier a32 (m :: rest) =
      .ok (if a32 then .a32Reg (m.extractLsb' 3 3) (m.extractLsb' 0 3) else .a16Reg (m.extractLsb' 3 3) (m.extractLsb' 0 3)) rest) ∧
  (∀ (reg rm : RegIdx) (s : State), s.cursor + 1 ≤ windowLen →
    exec (.a16Reg reg rm) s = .next (resolved s 1 (.register rm) reg) ∧
    exec (.a32Reg reg rm) s = .next (resolved s 1 (.register rm) reg)) ∧
  (∀ (rw : RegWidth) (w : Width) (rm : RegIdx) (v : Nat) (s : State), w.toReg? = some rw →
    readLocation w (.register rm) s = .ok (readReg rw rm s) s ∧
    writeLocation w (.register rm) v s = .ok () (writeReg rw rm v s)) ∧
  (∀ (w : Width) (dir : Direction) (rm reg : RegIdx) (s : State),
    checkOperand (some (.location .memoryOnly w dir)) (some (.register rm, reg)) s = .fault .addressingFault ∧
    checkOperand (some .effectiveAddress) (some (.register rm, reg)) s = .fault .addressingFault)

/-- R151 to R157, the 32-bit forms with mod = 0: `[EAX]`, `[ECX]`, `[EDX]`, `[EBX]`, `[d32]`, `[ESI]`, `[EDI]`. -/
def Obligations.Form32WithoutBaseDisplacement : Prop :=
  formRule true 0x00 0 (fun reg _ => .a32M0Rm0 reg) .ds (fun s _ => r32 s 0) ∧
  formRule true 0x01 0 (fun reg _ => .a32M0Rm1 reg) .ds (fun s _ => r32 s 1) ∧
  formRule true 0x02 0 (fun reg _ => .a32M0Rm2 reg) .ds (fun s _ => r32 s 2) ∧
  formRule true 0x03 0 (fun reg _ => .a32M0Rm3 reg) .ds (fun s _ => r32 s 3) ∧
  formRule true 0x05 4 (fun reg d => .a32M0Rm5 reg (BitVec.ofNat 32 d)) .ds (fun _ d => d) ∧
  formRule true 0x06 0 (fun reg _ => .a32M0Rm6 reg) .ds (fun s _ => r32 s 6) ∧
  formRule true 0x07 0 (fun reg _ => .a32M0Rm7 reg) .ds (fun s _ => r32 s 7)

/-- R158 to R164, the 32-bit forms with mod = 1: a displacement byte, sign-extended to 32 bits; SS for EBP. -/
def Obligations.Form32WithDisp8 : Prop :=
  formRule true 0x40 1 (fun reg d => .a32M1Rm0 reg (BitVec.ofNat 8 d)) .ds (fun s d => (r32 s 0 + sext 32 d) % 2 ^ 32) ∧
  formRule true 0x41 1 (fun reg d => .a32M1Rm1 reg (BitVec.ofNat 8 d)) .ds (fun s d => (r32 s 1 + sext 32 d) % 2 ^ 32) ∧
  formRule true 0x42 1 (fun reg d => .a32M1Rm2 reg (BitVec.ofNat 8 d)) .ds (fun s d => (r32 s 2 + sext 32 d) % 2 ^ 32) ∧
  formRule true 0x43 1 (fun reg d => .a32M1Rm3 reg (BitVec.ofNat 8 d)) .ds (fun s d => (r32 s 3 + sext 32 d) % 2 ^ 32) ∧
  formRule true 0x45 1 (fun reg d => .a32M1Rm5 reg (BitVec.ofNat 8 d)) .ss (fun s d => (r32 s 5 + sext 32 d) % 2 ^ 32) ∧
  formRule true 0x46 1 (fun reg d => .a32M1Rm6 reg (BitVec.ofNat 8 d)) .ds (fun s d => (r32 s 6 + sext 32 d) % 2 ^ 32) ∧
  formRule true 0x47 1 (fun reg d => .a32M1Rm7 reg (BitVec.ofNat 8 d)) .ds (fun s d => (r32 s 7 + sext 32 d) % 2 ^ 32)

/-- R165 to R171, the 32-bit forms with mod = 2: four displacement bytes, little-endian; SS for EBP. -/
def Obligations.Form32WithDisp32 : Prop :=
  formRule true 0x80 4 (fun reg d => .a32M2Rm0 reg (BitVec.ofNat 32 d)) .ds (fun s d => (r32 s 0 + d) % 2 ^ 32) ∧
  formRule true 0x81 4 (fun reg d => .a32M2Rm1 reg (BitVec.ofNat 32 d)) .ds (fun s d => (r32 s 1 + d) % 2 ^ 32) ∧
  formRule true 0x82 4 (fun reg d => .a32M2Rm2 reg (BitVec.ofNat 32 d)) .ds (fun s d => (r32 s 2 + d) % 2 ^ 32) ∧
  formRule true 0x83 4 (fun reg d => .a32M2Rm3 reg (BitVec.ofNat 32 d)) .ds (fun s d => (r32 s 3 + d) % 2 ^ 32) ∧
  formRule true 0x85 4 (fun reg d => .a32M2Rm5 reg (BitVec.ofNat 32 d)) .ss (fun s d => (r32 s 5 + d) % 2 ^ 32) ∧
  formRule true 0x86 4 (fun reg d => .a32M2Rm6 reg (BitVec.ofNat 32 d)) .ds (fun s d => (r32 s 6 + d) % 2 ^ 32) ∧
  formRule true 0x87 4 (fun reg d => .a32M2Rm7 reg (BitVec.ofNat 32 d)) .ds (fun s d => (r32 s 7 + d) % 2 ^ 32)

/-- R173, the SIB escapes: the byte after an escape is the SIB byte, and the form is completed as the M32S form of both
bytes. That an escape row, executed on its own, runs the whole resolve is the model's reading of R173 (DEDUCED, log 16). -/
def Obligations.SibEscapeTakesTheNextByte : Prop :=
  escapeRule 0 .a32SibM0 ∧ escapeRule 1 .a32SibM1 ∧ escapeRule 2 .a32SibM2

/-- R183 and R184, SIB forms with mod = 0 and a base register, without and with an index. The default segment of base ESP is
the parameter ESP_BASE_DEFAULT_SEG, SS by default (R191, the spec's decision D5). -/
def Obligations.SibMod0WithBase : Prop :=
  sibRule 0 0 (fun base index => base ≠ 5 ∧ index = 4) baseSeg (fun s base _ _ _ => r32 s base) ∧
  sibRule 0 0 (fun base index => base ≠ 5 ∧ index ≠ 4) baseSeg
    (fun s base index scale _ => (r32 s base + r32 s index * 2 ^ scale.toNat) % 2 ^ 32)

/-- R185 and R186, SIB forms with mod = 0 and base = 5: a 32-bit displacement, no base register, DS whatever the index. -/
def Obligations.SibMod0WithoutBase : Prop :=
  sibRule 0 4 (fun base index => base = 5 ∧ index = 4) (fun _ _ => .ds) (fun _ _ _ _ d => d) ∧
  sibRule 0 4 (fun base index => base = 5 ∧ index ≠ 4) (fun _ _ => .ds)
    (fun s _ index scale d => (d + r32 s index * 2 ^ scale.toNat) % 2 ^ 32)

/-- R187 and R188, SIB forms with mod = 1: any base, a sign-extended displacement byte. The default segment of base ESP is
the parameter ESP_BASE_DEFAULT_SEG, SS by default (R191, the spec's decision D5). -/
def Obligations.SibMod1 : Prop :=
  sibRule 1 1 (fun _ index => index = 4) baseSeg (fun s base _ _ d => (r32 s base + sext 32 d) % 2 ^ 32) ∧
  sibRule 1 1 (fun _ index => index ≠ 4) baseSeg
    (fun s base index scale d => (r32 s base + r32 s index * 2 ^ scale.toNat + sext 32 d) % 2 ^ 32)

/-- R189 and R190, SIB forms with mod = 2: any base, a 32-bit displacement. The default segment of base ESP is the parameter
ESP_BASE_DEFAULT_SEG, SS by default (R191, the spec's decision D5). -/
def Obligations.SibMod2 : Prop :=
  sibRule 2 4 (fun _ index => index = 4) baseSeg (fun s base _ _ d => (r32 s base + d) % 2 ^ 32) ∧
  sibRule 2 4 (fun _ index => index ≠ 4) baseSeg
    (fun s base index scale d => (r32 s base + r32 s index * 2 ^ scale.toNat + d) % 2 ^ 32)

/-- R192 (derived in spec/): with index = 4 all four `scale` values give the same next state, and none is rejected. -/
def Obligations.ScaleIgnoredWithoutIndex : Prop :=
  ∀ (i j : Instr) (f : SibFields) (scale : BitVec 2) (s : State), i.sibFields = some f → f.index = 4 →
    j.sibFields = some { f with scale := scale } → exec i s = exec j s

/-- R212: an override "replaces the default segment … regardless of addressing form"; "it never changes the offset or the
bytes consumed". For every specifier form and for `Resolve`: whatever it answers without an override pending, with override
`g` it answers the same offset in `g`, and the rest of the state is the same. -/
def Obligations.OverrideChangesOnlyTheBase : Prop :=
  ∀ (i : Instr) (g seg : Seg) (offset linear : Word) (reg : RegIdx) (s t : State), resolves i →
    exec i { s with segOverride := none } = .next t → t.out = .location (.memory seg offset linear) reg →
    exec i { s with segOverride := some g } =
      .next { t with segOverride := some g, out := .location (.memory g offset (s.baseOf g + offset)) reg }

/-- R92: `Resolve` returns `reg = modrm[5:3]`; another value of `reg` in the same ModR/M byte gives the same location and
consumes the same bytes. -/
def Obligations.RegFieldLeavesTheAddress : Prop :=
  ∀ (s t : State) (m : Byte) (loc : Location) (reg other : RegIdx), s.win[s.cursor]? = some m →
    exec .resolve s = .next t → t.out = .location loc reg →
    reg = m.extractLsb' 3 3 ∧
    exec .resolve { s with win := s.win.set s.cursor (m.extractLsb' 6 2 ++ other ++ m.extractLsb' 0 3) } =
      .next { t with win := s.win.set s.cursor (m.extractLsb' 6 2 ++ other ++ m.extractLsb' 0 3),
                     out := .location loc other }

/-- R120, R150, R180 against R121 to R190: `Resolve`, which follows the three algorithms, is the form its bytes decode to in
the current address size; where they do not decode, the window is overrun (R99, the spec's decision D21). -/
def Obligations.ResolveIsTheDecodedForm : Prop :=
  (∀ (s : State) (i : Instr) (rest : List Byte), s.win.length = windowLen →
    decodeSpecifier s.addressSize32 (s.win.drop s.cursor) = .ok i rest → exec .resolve s = exec i s) ∧
  (∀ (s : State) (e : DecodeError), s.win.length = windowLen →
    decodeSpecifier s.addressSize32 (s.win.drop s.cursor) = .reject e → exec .resolve s = .refused .windowOverrun)

/-- R96, R102 (derived in spec/): every specifier is defined in both address sizes; with six bytes of window left `Resolve`
completes, consuming 1 to 6 bytes, 1 to 3 of them in 16-bit mode, and the decoder consumes as many. -/
def Obligations.ResolveCompletes : Prop :=
  ∀ (s : State), s.win.length = windowLen → s.cursor + 6 ≤ windowLen →
    ∃ (i : Instr) (rest : List Byte) (n : Nat) (loc : Location) (reg : RegIdx),
      decodeSpecifier s.addressSize32 (s.win.drop s.cursor) = .ok i rest ∧ rest.length + n + s.cursor = windowLen ∧
      1 ≤ n ∧ n ≤ (if s.addressSize32 then 6 else 3) ∧ exec .resolve s = .next (resolved s n loc reg)

/-- R146, R147 (derived in spec/): a 16-bit offset is in 0 to 0xFFFF, and depends on the low halves of BX, BP, SI and DI
alone: a state that differs in the upper halves, in AX, CX, DX and SP gives the same answer. -/
def Obligations.Offset16ReadsLowHalves : Prop :=
  (∀ (s t : State) (seg : Seg) (offset linear : Word) (reg : RegIdx), s.addressSize32 = false →
    exec .resolve s = .next t → t.out = .location (.memory seg offset linear) reg → offset.toNat < 2 ^ 16) ∧
  (∀ (s t : State) (g : Vector Word 8), s.addressSize32 = false →
    r16 { s with gpr := g } 3 = r16 s 3 → r16 { s with gpr := g } 5 = r16 s 5 →
    r16 { s with gpr := g } 6 = r16 s 6 → r16 { s with gpr := g } 7 = r16 s 7 →
    exec .resolve s = .next t → exec .resolve { s with gpr := g } = .next { t with gpr := g })

/-- R98, the consumption primitives: one, two or four bytes at the cursor, the first the least significant, the cursor past
them; they read the window, never memory, and raise no PageFault. -/
def Obligations.ConsumptionPrimitives : Prop :=
  ∀ (s : State) (b0 b1 b2 b3 : Byte) (rest : List Byte),
    (s.win.drop s.cursor = b0 :: rest → fetch8 s = .ok b0 { s with cursor := s.cursor + 1 }) ∧
    (s.win.drop s.cursor = b0 :: b1 :: rest →
      fetch16 s = .ok (BitVec.ofNat 16 (b0.toNat + 256 * b1.toNat)) { s with cursor := s.cursor + 2 }) ∧
    (s.win.drop s.cursor = b0 :: b1 :: b2 :: b3 :: rest →
      fetch32 s = .ok (BitVec.ofNat 32 (b0.toNat + 256 * b1.toNat + 65536 * b2.toNat + 16777216 * b3.toNat))
        { s with cursor := s.cursor + 4 })

/-- R278, the closed list of refusals (the spec's decisions D9, D12, D16, D21). No instruction is refused for any other reason.
WindowOverrun: a specifier or prefix that does not fit in the window, and an escape row whose SIB byte or displacement does not
(R99). PhysOutOfRange: a walk that reads an entry beyond PHYS_SIZE (R232), and an access, straddling or not, whose bytes lie
beyond it (R67), the earlier bytes of a straddling one being reached without a walk. PdBaseMisaligned: a directory base that is
no multiple of 4096 (R251). Stated of the instructions: the operand protocol and malformed requests add the refusals of log 13,
24, 25 and 26; that an escape row resolves whole is log 16. -/
def Obligations.Refusals : Prop :=
  (∀ (i : Instr) (s : State) (r : Refusal), exec i s = .refused r →
    r = .physOutOfRange ∨ r = .windowOverrun ∨ r = .pdBaseMisaligned) ∧
  (∀ (i : Instr) (fmt : Format) (bytes : List Byte) (s : State), encode i = .stream fmt bytes →
    windowLen < s.cursor + bytes.length → exec i s = .refused .windowOverrun) ∧
  (∀ (mod : BitVec 2) (escape : RegIdx → Instr) (reg : RegIdx) (s : State),
    (mod = 0 ∧ escape = .a32SibM0) ∨ (mod = 1 ∧ escape = .a32SibM1) ∨ (mod = 2 ∧ escape = .a32SibM2) →
    s.win.length = windowLen →
    windowLen < s.cursor + 2 ∨
      (∃ sib, s.win[s.cursor + 1]? = some sib ∧ windowLen < s.cursor + (2 + sibDispLen mod (sib.extractLsb' 0 3))) →
    exec (escape reg) s = .refused .windowOverrun) ∧
  (∀ (s : State) (pde : Nat), s.pdBase ≠ 0 → s.pdBase.toNat % 4096 = 0 →
    Tcache.find? s.tcache (s.args.linear.toNat / 4096) = none → pde = entryAt s (pdeAddress s s.args.linear) →
    s.cfg.physSize < pdeAddress s s.args.linear + 4 ∨
      (pde % 2 = 1 ∧ s.cfg.physSize < pteAddress pde s.args.linear + 4) →
    exec .translate s = .refused .physOutOfRange) ∧
  (∀ (s : State), s.args.linear.toNat % 4096 + s.args.count ≤ 4096 →
    (outOfRange s.args.linear s.args.count s.args.kind s → exec .memRead s = .refused .physOutOfRange) ∧
    (outOfRange s.args.linear s.args.count .write s → exec .memWrite s = .refused .physOutOfRange)) ∧
  (∀ (s : State), s.args.linear.toNat % 4096 + 16 ≤ 4096 → outOfRange s.args.linear 16 .instructionFetch s →
    exec .fetchWindow s = .refused .physOutOfRange) ∧
  (∀ (s : State) (p : Nat → Word) (k : Nat), s.Inv →
    (∀ i, i < k → storeByteAt s (s.args.linear + BitVec.ofNat 32 i) (p i)) →
    (k < s.args.count → 4096 < s.args.linear.toNat % 4096 + s.args.count →
      (outOfRange (s.args.linear + BitVec.ofNat 32 k) 1 s.args.kind s → exec .memRead s = .refused .physOutOfRange) ∧
      (outOfRange (s.args.linear + BitVec.ofNat 32 k) 1 .write { s with pmem := storeEach s.pmem p k s.args.value } →
        exec .memWrite s = .refused .physOutOfRange)) ∧
    (k < 16 → 4096 < s.args.linear.toNat % 4096 + 16 →
      outOfRange (s.args.linear + BitVec.ofNat 32 k) 1 .instructionFetch s →
      exec .fetchWindow s = .refused .physOutOfRange)) ∧
  (∀ (s : State), s.args.value < 2 ^ 32 → s.args.value % 4096 ≠ 0 → exec .writePdBase s = .refused .pdBaseMisaligned)

/-- R31 and R32, the register views, with the 32-bit one (R30, R33): a 32-bit write replaces the register, a 16-bit write
replaces bits 15:0, an 8-bit write changes only its eight bits, index 4 to 7 naming the second byte of register 0 to 3; no
other register and no other state changes. -/
def Obligations.RegisterViews : Prop :=
  ∀ (s : State) (i j : RegIdx) (v : Nat),
    readReg .four i s = r32 s i ∧
    r32 (writeReg .four i v s) i = v % 2 ^ 32 ∧
    (j ≠ i → r32 (writeReg .four i v s) j = r32 s j) ∧
    readReg .two i s = r32 s i % 2 ^ 16 ∧
    r32 (writeReg .two i v s) i = r32 s i / 2 ^ 16 * 2 ^ 16 + v % 2 ^ 16 ∧
    (j ≠ i → r32 (writeReg .two i v s) j = r32 s j) ∧
    (i.toNat < 4 → readReg .one i s = r32 s i % 2 ^ 8 ∧
      r32 (writeReg .one i v s) i = r32 s i / 2 ^ 8 * 2 ^ 8 + v % 2 ^ 8 ∧
      (j ≠ i → r32 (writeReg .one i v s) j = r32 s j)) ∧
    (4 ≤ i.toNat → readReg .one i s = r32 s (i - 4) / 2 ^ 8 % 2 ^ 8 ∧
      r32 (writeReg .one i v s) (i - 4) =
        r32 s (i - 4) / 2 ^ 16 * 2 ^ 16 + v % 2 ^ 8 * 2 ^ 8 + r32 s (i - 4) % 2 ^ 8 ∧
      (j ≠ i - 4 → r32 (writeReg .one i v s) j = r32 s j)) ∧
    (∀ w, { writeReg w i v s with gpr := s.gpr } = s)

/-- R41, R101, R265: a prefix instruction consumes its byte, advances IP by the bytes consumed and sets its pending state, the
last override winning; nothing else changes. (D35; the byte at the cursor and the flipping toggle are log 18 and 19.) -/
def Obligations.PrefixesSetPendingState : Prop :=
  ∀ (s : State), s.cursor + 1 ≤ windowLen →
    let t : State := { s with cursor := s.cursor + 1, ip := s.ip + BitVec.ofNat 32 (s.cursor + 1), out := .nothing }
    exec .prefixEs s = .next { t with segOverride := some .es } ∧
    exec .prefixCs s = .next { t with segOverride := some .cs } ∧
    exec .prefixSs s = .next { t with segOverride := some .ss } ∧
    exec .prefixDs s = .next { t with segOverride := some .ds } ∧
    exec .prefixFs s = .next { t with segOverride := some .fs } ∧
    exec .prefixGs s = .next { t with segOverride := some .gs } ∧
    exec .prefixOpsize s = .next { t with operandSize32 := !s.operandSize32 } ∧
    exec .prefixAddrsize s = .next { t with addressSize32 := !s.addressSize32 }

/-- R227 (D11, D33): with paging off `Translate` answers L[19:0] with the A20 gate disabled and L with it enabled; nothing
else changes. -/
def Obligations.TranslateUnpaged : Prop :=
  ∀ (s : State), s.pdBase = 0 →
    (s.a20Mask = 0x000FFFFF#32 →
      exec .translate s = .next { s with out := .physical (BitVec.ofNat 32 (s.args.linear.toNat % 2 ^ 20)) }) ∧
    (s.a20Mask = 0xFFFFFFFF#32 → exec .translate s = .next { s with out := .physical s.args.linear })

/-- R229: on a cache hit `Translate` answers `cachedBase | offset`, the same as `+` since the base has bits 11:0 zero; no
memory is read, `walkCount` does not change, no fault is raised: this holds whatever the memory holds. -/
def Obligations.TranslateHit : Prop :=
  ∀ (s : State) (base : Word), s.pdBase ≠ 0 → Tcache.find? s.tcache (s.args.linear.toNat / 4096) = some base →
    exec .translate s = .next { s with out := .physical (base ||| (s.args.linear &&& 0xFFF#32)) } ∧
    (base.toNat % 4096 = 0 →
      base ||| (s.args.linear &&& 0xFFF#32) = BitVec.ofNat 32 (base.toNat + s.args.linear.toNat % 4096))

/-- R228, R230 to R232, R234, R236 (D8, D9, D14): on a miss with both entries present `Translate` counts the walk, caches the
page base and answers base plus offset. The entries are read at these physical addresses whatever the A20 mask and the VRAM
window are; bits 11:1 of an entry are ignored. -/
def Obligations.TranslateWalk : Prop :=
  ∀ (s : State) (pde pte : Nat), s.pdBase ≠ 0 → s.pdBase.toNat % 4096 = 0 →
    Tcache.find? s.tcache (s.args.linear.toNat / 4096) = none →
    pdeAddress s s.args.linear + 4 ≤ s.cfg.physSize → pde = entryAt s (pdeAddress s s.args.linear) → pde % 2 = 1 →
    pteAddress pde s.args.linear + 4 ≤ s.cfg.physSize → pte = entryAt s (pteAddress pde s.args.linear) → pte % 2 = 1 →
    exec .translate s =
      .next { s with walkCount := s.walkCount + 1,
                     tcache := Tcache.insert s.tcache (s.args.linear.toNat / 4096) (BitVec.ofNat 32 (pte / 4096 * 4096)),
                     out := .physical (BitVec.ofNat 32 (pte / 4096 * 4096 + s.args.linear.toNat % 4096)) }

/-- R233 and R237: the directory entry is tested first, and if it is not present the table entry is never read; a faulting
walk signals PageFault(L, kind), has been counted, and leaves the cache exactly as it was, so that the next `Translate` walks
and counts again. -/
def Obligations.TranslateFault : Prop :=
  ∀ (s : State) (pde : Nat), s.pdBase ≠ 0 → s.pdBase.toNat % 4096 = 0 →
    Tcache.find? s.tcache (s.args.linear.toNat / 4096) = none →
    pdeAddress s s.args.linear + 4 ≤ s.cfg.physSize → pde = entryAt s (pdeAddress s s.args.linear) →
    (pde % 2 = 0 ∨ (pteAddress pde s.args.linear + 4 ≤ s.cfg.physSize ∧ entryAt s (pteAddress pde s.args.linear) % 2 = 0)) →
    exec .translate s = .next { s with walkCount := s.walkCount + 1, out := .pageFault s.args.linear s.args.kind } ∧
    exec .translate { s with walkCount := s.walkCount + 1, out := .pageFault s.args.linear s.args.kind } =
      .next { s with walkCount := s.walkCount + 2, out := .pageFault s.args.linear s.args.kind }

/-- R226 (derived in spec/): the access kind influences neither the physical address nor whether a fault is raised; it is
the second field of the payload. -/
def Obligations.AccessKindOnlyInPayload : Prop :=
  ∀ (s t : State) (kind : AccessKind), exec .translate s = .next t →
    (∃ p, t.out = .physical p ∧
      exec .translate { s with args := { s.args with kind := kind } } =
        .next { t with args := { s.args with kind := kind } }) ∨
    (t.out = .pageFault s.args.linear s.args.kind ∧
      exec .translate { s with args := { s.args with kind := kind } } =
        .next { t with args := { s.args with kind := kind }, out := .pageFault s.args.linear kind })

/-- R238, R255, R313 (D10, D32): while paging is enabled the A20 mask has no effect on any translation or access. -/
def Obligations.A20WithoutEffectWhilePaging : Prop :=
  ∀ (i : Instr) (s t : State) (mask : Word), i = .translate ∨ i = .memRead ∨ i = .memWrite ∨ i = .fetchWindow →
    s.pdBase ≠ 0 → exec i s = .next t → exec i { s with a20Mask := mask } = .next { t with a20Mask := mask }

/-- R62, R63, R65, R256 (D17 to D19): `MemRead` of n bytes, each of which is reached without a walk and lies in the backing
store, answers those n bytes as a little-endian number, byte i from linear address (L + i) mod 2^32, whether the access
straddles or not; nothing else changes. -/
def Obligations.MemReadOfReachableBytes : Prop :=
  ∀ (s : State) (p : Nat → Word), s.Inv → 1 ≤ s.args.count →
    (∀ i, i < s.args.count → storeByteAt s (s.args.linear + BitVec.ofNat 32 i) (p i)) →
    exec .memRead s = .next { s with
      out := .value s.args.count (leValue ((List.range s.args.count).map fun i => Memory.read s.pmem (p i).toNat)) }

/-- R62, R65, R257 (D17 to D19): `MemWrite` of n bytes, each of which is reached without a walk and lies in the backing
store, stores byte i of the value at the physical address of (L + i) mod 2^32; nothing else changes. -/
def Obligations.MemWriteOfReachableBytes : Prop :=
  ∀ (s : State) (p : Nat → Word), s.Inv → 1 ≤ s.args.count →
    (∀ i, i < s.args.count → storeByteAt s (s.args.linear + BitVec.ofNat 32 i) (p i)) →
    exec .memWrite s = .next { s with pmem := storeEach s.pmem p s.args.count s.args.value, out := .nothing }

/-- R257 (D17 to D19), the frame of `MemWrite`, completed or faulting half-way: every byte of the backing store outside the
bytes stored to reads as before, and beside it only the translation cache, the walk count, the calls of the video handler
and the output may change. -/
def Obligations.MemWriteFrame : Prop :=
  ∀ (s t : State), exec .memWrite s = .next t →
    (∀ a, a ∉ storeTargets s.args.linear (leBytes s.args.count s.args.value) s → Memory.read t.pmem a = Memory.read s.pmem a) ∧
    t = { s with pmem := t.pmem, tcache := t.tcache, walkCount := t.walkCount, videoCalls := t.videoCalls, out := t.out }

/-- R69, R257, R280 (D17 to D19): a straddling `MemWrite` whose byte k meets a page that is not present, the bytes before it
being reached without a walk, leaves those bytes stored and signals PageFault with the address of byte k and kind Write. -/
def Obligations.StraddlingStoreKeepsEarlierBytes : Prop :=
  ∀ (s u v : State) (p : Nat → Word) (k : Nat) (x : Word) (kind : AccessKind), s.Inv → k < s.args.count →
    4096 < s.args.linear.toNat % 4096 + s.args.count →
    (∀ i, i < k → storeByteAt s (s.args.linear + BitVec.ofNat 32 i) (p i)) →
    u = { s with pmem := storeEach s.pmem p k s.args.value } →
    translate (s.args.linear + BitVec.ofNat 32 k) .write u = .pageFault x kind v →
    exec .memWrite s = .next { u with walkCount := s.walkCount + 1,
                                      out := .pageFault (s.args.linear + BitVec.ofNat 32 k) .write }

/-- R65, R71, R72, R74, R256, R257 (D9, D15, D17): a non-straddling access is one `Translate` and one access of its width at
the result `p`: in the VRAM window a call of the video handler with `p` and the width, which may answer any bytes and leaves
the backing store alone; else an access of the backing store. The video handler's bytes are a free value (log 8). -/
def Obligations.OneTranslateOneAccess : Prop :=
  ∀ (s u : State) (p : Word), s.args.linear.toNat % 4096 + s.args.count ≤ 4096 →
    (translate s.args.linear s.args.kind s = .ok p u →
      (s.cfg.vramBase ≤ p.toNat ∧ p.toNat < s.cfg.vramBase + s.cfg.vramSize →
        ∃ bytes, bytes.length = s.args.count ∧
          exec .memRead s = .next { u with
            videoCalls := u.videoCalls ++ [.read p s.args.count], freeIndex := u.freeIndex + 1,
            out := .value s.args.count (leValue bytes) }) ∧
      (¬ (s.cfg.vramBase ≤ p.toNat ∧ p.toNat < s.cfg.vramBase + s.cfg.vramSize) →
        p.toNat + s.args.count ≤ s.cfg.physSize →
        exec .memRead s = .next { u with
          out := .value s.args.count (leValue (Memory.readBytes s.pmem p.toNat s.args.count)) })) ∧
    (translate s.args.linear .write s = .ok p u →
      (s.cfg.vramBase ≤ p.toNat ∧ p.toNat < s.cfg.vramBase + s.cfg.vramSize →
        exec .memWrite s = .next { u with
          videoCalls := u.videoCalls ++ [.write p (leBytes s.args.count s.args.value)], out := .nothing }) ∧
      (¬ (s.cfg.vramBase ≤ p.toNat ∧ p.toNat < s.cfg.vramBase + s.cfg.vramSize) →
        p.toNat + s.args.count ≤ s.cfg.physSize →
        exec .memWrite s = .next { u with
          pmem := Memory.writeBytes s.pmem p.toNat (leBytes s.args.count s.args.value), out := .nothing }))

/-- R73 (derived in spec/): a non-straddling access is wholly inside or wholly outside the VRAM window. -/
def Obligations.WindowTestByFirstByte : Prop :=
  ∀ (s u : State) (l p : Word) (n j : Nat) (kind : AccessKind), s.Inv → l.toNat % 4096 + n ≤ 4096 →
    translate l kind s = .ok p u → j < n →
    p.toNat + j < 2 ^ 32 ∧ inVram s.cfg (p + BitVec.ofNat 32 j) = inVram s.cfg p

/-- R63, R258 (D20): `FetchWindow` of sixteen bytes, each reached without a walk and in the backing store, fills the window
with the bytes at (L + k) mod 2^32 and puts the cursor at 0; nothing else changes. -/
def Obligations.FetchWindowOfReachableBytes : Prop :=
  ∀ (s : State) (p : Nat → Word), s.Inv →
    (∀ k, k < 16 → storeByteAt s (s.args.linear + BitVec.ofNat 32 k) (p k)) →
    exec .fetchWindow s = .next { s with
      win := (List.range 16).map fun k => Memory.read s.pmem (p k).toNat, cursor := 0,
      out := .value 16 (leValue ((List.range 16).map fun k => Memory.read s.pmem (p k).toNat)) }

/-- R250: `WritePdBase(v)` sets the base and empties the entire cache, on every write, the same value and 0 included;
`walkCount` and the rest are unchanged. -/
def Obligations.WritePdBaseClearsCache : Prop :=
  ∀ (s : State), s.args.value < 2 ^ 32 → s.args.value % 4096 = 0 →
    exec .writePdBase s = .next { s with pdBase := BitVec.ofNat 32 s.args.value, tcache := [], out := .nothing }

/-- R252: `FlushCache()` empties the cache; `pdBase`, `a20Mask`, `walkCount` and the rest are unchanged. A `Translate` of a
page that misses in it walks again: it can hit nothing. -/
def Obligations.FlushCacheClearsCache : Prop :=
  ∀ (s : State), exec .flushCache s = .next { s with tcache := [], out := .nothing } ∧
    ∀ t key, exec .flushCache s = .next t → Tcache.find? t.tcache key = none

/-- R254, R255 (D11, D32): `SetA20` sets the mask to one of its two values and does not clear the cache. -/
def Obligations.SetA20SetsMask : Prop :=
  ∀ (s : State),
    (s.args.enabled = true → exec .setA20 s = .next { s with a20Mask := 0xFFFFFFFF#32, out := .nothing }) ∧
    (s.args.enabled = false → exec .setA20 s = .next { s with a20Mask := 0x000FFFFF#32, out := .nothing })

/-- R45, R300 (D22): `Reset` puts the owned state at its reset values and leaves memory, configuration and the consumed state
alone; the window is unspecified until the next fetch. The same values stand after a launch with any arguments. -/
def Obligations.ResetOwnedState : Prop :=
  (∀ (s : State), ∃ win : List Byte, win.length = 16 ∧
    exec .reset s = .next { s with
      pdBase := 0, tcache := [], walkCount := 0,
      a20Mask := if s.cfg.resetA20Enabled then 0xFFFFFFFF#32 else 0x000FFFFF#32, segOverride := none, cursor := 0,
      win := win, freeIndex := s.freeIndex + 1, out := .nothing }) ∧
  (∀ (cfg : Config) (image : List Host.Cell) (gpr : Vector Word 8) (segBase : Vector Word 6) (ip flags : Word)
      (a32 o32 : Bool) (win : List Byte) (requests : List Request),
    let s := State.launch cfg image gpr segBase ip flags a32 o32 win requests
    s.pdBase = 0 ∧ s.tcache = [] ∧ s.walkCount = 0 ∧ s.segOverride = none ∧ s.cursor = 0 ∧ s.cfg = cfg ∧ s.pmem = image ∧
      s.a20Mask = (if cfg.resetA20Enabled then 0xFFFFFFFF#32 else 0x000FFFFF#32))

/-- R81: no instruction but `WritePdBase`, `FlushCache` and `Reset` changes or removes a cached entry, a store into the page
tables least of all; the entry keeps translating with the old page base. -/
def Obligations.CacheEntriesStayUntilCleared : Prop :=
  ∀ (i : Instr) (s t : State) (l base : Word), i ≠ .writePdBase → i ≠ .flushCache → i ≠ .reset →
    exec i s = .next t → s.pdBase ≠ 0 → Tcache.find? s.tcache (l.toNat / 4096) = some base →
    Tcache.find? t.tcache (l.toNat / 4096) = some base ∧
    ∀ kind, translate l kind t = .ok (base ||| (l &&& 0xFFF#32)) t

/-- R42: "The block reads no flag and writes no flag." For every instruction: its next state has the flags it had, and
started with other flags it does the same and keeps those. -/
def Obligations.FlagsNeitherReadNorWritten : Prop :=
  ∀ (i : Instr) (s t : State) (v : Word), exec i s = .next t →
    t.flags = s.flags ∧ exec i { s with flags := v } = .next { t with flags := v }

/-- The frame of every instruction of the block, from the "written by" column of R43 and from R26, R27, R30, R35, R36, R38,
R40, R41: which state only which instructions write. -/
def Obligations.ExecFrame : Prop :=
  ∀ (i : Instr) (s t : State), exec i s = .next t →
    t.cfg = s.cfg ∧ t.gpr = s.gpr ∧ t.segBase = s.segBase ∧ t.flags = s.flags ∧
    t.defaultAddressSize32 = s.defaultAddressSize32 ∧ t.defaultOperandSize32 = s.defaultOperandSize32 ∧
    t.requests = s.requests ∧ t.args = s.args ∧
    (i ≠ .memWrite → t.pmem = s.pmem) ∧
    (i ≠ .writePdBase → i ≠ .reset → t.pdBase = s.pdBase) ∧
    (i ≠ .setA20 → i ≠ .reset → t.a20Mask = s.a20Mask) ∧
    (i.prefixByte = none → t.ip = s.ip ∧ t.addressSize32 = s.addressSize32 ∧ t.operandSize32 = s.operandSize32) ∧
    (i.prefixByte = none → i ≠ .reset → t.segOverride = s.segOverride) ∧
    (i ≠ .fetchWindow → i ≠ .reset → t.win = s.win) ∧
    (i ≠ .memRead → i ≠ .memWrite → i ≠ .fetchWindow → t.videoCalls = s.videoCalls) ∧
    (i ≠ .translate → i ≠ .memRead → i ≠ .memWrite → i ≠ .fetchWindow → i ≠ .reset →
      t.walkCount = s.walkCount ∧ (i ≠ .writePdBase → i ≠ .flushCache → t.tcache = s.tcache))

/-- R272: a memory-only or effective-address-only operand encoded with `mod` = 3 is an AddressingFault, right after the
resolve: whatever the rest of the state and of the descriptor is. -/
def Obligations.AddressingFaultOnRegisterForm : Prop :=
  ∀ (s t : State) (d : Descriptor) (h : HandlerAnswer) (rest : List Request) (win : List Byte) (m : Byte) (rm : RmOperand),
    dispatches s d h rest win t →
    (∃ w dir, d.specifier = .full w dir rm) ∨ d.specifier = .onlyExtraDigit rm →
    (∃ w dir, rm = .location .memoryOnly w dir) ∨ rm = .effectiveAddress →
    win[d.opcodeLen]? = some m → m &&& 0xC0#8 = 0xC0#8 → step s = .fault .addressingFault

/-- R273 and R274: opcode bytes that match no catalog entry are a DecodeFault with the 1 to 3 bytes examined, unless the fetch
itself faults, after which no DecodeFault can follow; an opcode without a procedure in the active size-mode slot is an
UnimplementedSizeFault. -/
def Obligations.DispatchFaults : Prop :=
  (∀ (s t : State) (n : Fin 3) (rest : List Request) (win : List Byte), fetched s (.noEntry n) rest win t →
    step s = .fault (.decodeFault (win.take (n.val + 1)))) ∧
  (∀ (s t : State) (n : Fin 3) (rest : List Request) (a : Word) (kind : AccessKind) (examined : List Byte),
    s.requests = .cycle (.noEntry n) :: rest →
    fetchWindow (s.baseOf .cs + s.ip) { s with requests := rest } = .pageFault a kind t →
    step s ≠ .fault (.decodeFault examined)) ∧
  (∀ (s t : State) (procedures : Vector (Option Descriptor) 4) (h : HandlerAnswer) (rest : List Request) (win : List Byte),
    fetched s (.entry procedures h) rest win t → procedures[slotNumber s]? = some none →
    step s = .fault (.unimplementedSize (slotNumber s)))

/-- R277 (derived in spec/), R281: a PageFault of the window fetch precedes everything the dispatch could answer; its kind is
InstructionFetch, and window, cursor, IP and pending prefix state are as they were (the window and cursor: log 30). -/
def Obligations.FetchFaultComesFirst : Prop :=
  ∀ (s t : State) (answer : DispatchAnswer) (rest : List Request) (a : Word) (kind : AccessKind),
    s.requests = .cycle answer :: rest →
    fetchWindow (s.baseOf .cs + s.ip) { s with requests := rest } = .pageFault a kind t →
    kind = .instructionFetch ∧ step s = .next { t with out := .pageFault a kind } ∧ t.requests = rest ∧
    t.win = s.win ∧ t.cursor = s.cursor ∧ t.ip = s.ip ∧ t.segOverride = s.segOverride ∧ t.pmem = s.pmem ∧ t.gpr = s.gpr

/-- R262, with R219, R260, R263 to R265: the dispatch cycle of any descriptor, from the fetched window on. The opcode bytes are
passed; the operand is found, by `Resolve` once or by a memory offset; the immediates follow; input or inout operands are
read, the implicit ones first; the handler does its maintenance operations and writes; the fixed, reg-field, implicit and r/m
operands that are output or inout are written back, the last to the location found before the handler ran; IP and epilog
follow. The spec's decision D37 (IP) and the model's readings: the immediate of a memory-offset operand before the others (log
36), the order of the write-backs (log 23), the default size bits (log 28), the handler's part as an input (log 22), immediates
of 1, 2 or 4 bytes (log 31), implicit operands whose address is an input (D36, log 37). -/
def Obligations.OperandReadHandlerWriteBack : Prop :=
  ∀ (s v y x : State) (d : Descriptor) (h : HandlerAnswer) (rest : List Request) (loc : Option (Location × RegIdx))
    (imm : List Byte) (implicit : List (Option Nat)) (rm : Option Nat),
    operandsRead s d h rest loc imm implicit rm v → basesAligned h →
    implicitStores d.implicit h.implicit (registersWrittenBack d h loc (afterHandler h v)) y →
    operandStores (rmOperand d.specifier) loc h.rm y x →
    step s = .next (retired x s.ip (valuesFrom d loc implicit rm imm v))

/-- R218: an effective-address-only operand takes the resolver's offset as its value; no base is added, nothing is translated
or accessed; a register form is an AddressingFault. Stated for a `/r` form whose reg-field operand is the output. The rest of
the cycle is R264 with the spec's decision D37 (IP), and R265's own derived reading of the default size bits (log 28). -/
def Obligations.EffectiveAddressOperand : Prop :=
  ∀ (s t u : State) (d : Descriptor) (h : HandlerAnswer) (rest : List Request) (win : List Byte)
    (regW : RegWidth) (loc : Location) (reg : RegIdx),
    dispatches s d h rest win t → d.opcodeLen ≤ 16 → d.fixed = [] → d.implicit = [] → d.immediates = [] →
    d.specifier = .full regW .output .effectiveAddress → basesAligned h →
    resolve { t with cursor := d.opcodeLen } = .ok (loc, reg) u →
    (∀ seg offset linear, loc = .memory seg offset linear →
      step s = .next (retired (writeReg regW reg h.reg (afterHandler h u)) s.ip
        { fixed := [], implicit := [], reg := none, rm := some offset.toNat, immediates := [] })) ∧
    (∀ i, loc = .register i → step s = .fault .addressingFault)

/-- R219: a memory-offset operand takes its offset from the instruction stream, as wide as the address size, with default
segment DS and the rules for override and linear address unchanged. -/
def Obligations.MemoryOffsetOperand : Prop :=
  ∀ (s : State) (w : Width) (dir : Direction) (disp rest : List Byte), s.win.drop s.cursor = disp ++ rest →
    disp.length = (if s.addressSize32 then 4 else 2) →
    locate (.memoryOffset w dir) s =
      .ok (some (memoryAt s .ds (leValue disp), 0)) { s with cursor := s.cursor + disp.length }

/-- R264 (D37), R265 (derived in spec/ for the size-mode bits): a CPU instruction that completes advances IP by the bytes
consumed, computed from the cursor, and its epilog clears the pending prefix state. -/
def Obligations.CompletedInstructionAdvancesIp : Prop :=
  ∀ (s t : State) (answer : DispatchAnswer) (rest : List Request) (values : OperandValues),
    s.requests = .cycle answer :: rest → step s = .next t → t.out = .operands values →
    t.ip = s.ip + BitVec.ofNat 32 t.cursor ∧ t.segOverride = none ∧ t.addressSize32 = s.defaultAddressSize32 ∧
    t.operandSize32 = s.defaultOperandSize32 ∧ t.requests = rest

/-- R263 (D34): the location is resolved once: two runs of one instruction whose handlers differ only in the registers and
flags they change by themselves store the same bytes to the same places. -/
def Obligations.WriteBackLocationResolvedOnce : Prop :=
  ∀ (s t t' : State) (procedures : Vector (Option Descriptor) 4) (h : HandlerAnswer) (rest : List Request)
    (writes : List (RegIdx × Word)) (flags : Word),
    s.requests = .cycle (.entry procedures h) :: rest → step s = .next t →
    step { s with requests := .cycle (.entry procedures { h with gprWrites := writes, flags := flags }) :: rest } = .next t' →
    t'.pmem = t.pmem ∧ t'.videoCalls = t.videoCalls

/-- R271, R280, R281 (derived in spec/): a PageFault of a dispatch cycle leaves IP, override, size-mode bits and segment bases as
they were; it has been counted; one of kind Read or InstructionFetch comes before any register, store or operation of the
handler, one of kind Write after the handler, whose flags and maintenance operations stay (R263). -/
def Obligations.CyclePageFault : Prop :=
  ∀ (s t : State) (procedures : Vector (Option Descriptor) 4) (h : HandlerAnswer) (rest : List Request) (a : Word)
    (kind : AccessKind),
    s.requests = .cycle (.entry procedures h) :: rest → step s = .next t → t.out = .pageFault a kind →
    t.ip = s.ip ∧ t.segOverride = s.segOverride ∧ t.addressSize32 = s.addressSize32 ∧ t.operandSize32 = s.operandSize32 ∧
    t.segBase = s.segBase ∧ s.walkCount < t.walkCount ∧
    (kind ≠ .write → t.gpr = s.gpr ∧ t.flags = s.flags ∧ t.pmem = s.pmem ∧ t.pdBase = s.pdBase ∧ t.a20Mask = s.a20Mask) ∧
    (kind = .write → t.flags = h.flags ∧ t.pdBase = (h.operations.foldl afterMaintenance s).pdBase ∧
      t.a20Mask = (h.operations.foldl afterMaintenance s).a20Mask)

/-- A STEP RUNS THE DECODED INSTRUCTION. The oldest request is taken off; then the step is `exec` of the instruction that the
port code gives (its arguments presented, if well formed), that the bytes at the cursor give in the current address size, or
that the prefix byte at the cursor is; a dispatch cycle whose fetched window starts with a prefix byte runs that prefix, and the
cycle stays queued (R41, R265); with nothing asked for the block idles and nothing is lost (R290). (Log 12, 13, 20.) -/
def Obligations.StepRunsDecodedInstruction : Prop :=
  (∀ (s : State) (code : BitVec 4) (args : PortArguments) (rest : List Request) (i : Instr) (left : List Byte),
    s.requests = .decode (.command code args) :: rest → decodePort code = .ok i left → i.wellFormed args = true →
    step s = exec i { s with requests := rest, args := args }) ∧
  (∀ (s : State) (rest : List Request) (i : Instr) (left : List Byte), s.requests = .decode .specifier :: rest →
    decodeSpecifier s.addressSize32 (s.win.drop s.cursor) = .ok i left → step s = exec i { s with requests := rest }) ∧
  (∀ (s : State) (rest : List Request) (i : Instr) (left : List Byte), s.requests = .decode .prefixByte :: rest →
    decodePrefix (s.win.drop s.cursor) = .ok i left → step s = exec i { s with requests := rest }) ∧
  (∀ (s t : State) (answer : DispatchAnswer) (rest : List Request) (win : List Byte) (i : Instr) (left : List Byte),
    s.requests = .cycle answer :: rest →
    fetchWindow (s.baseOf .cs + s.ip) { s with requests := rest } = .ok win t → decodePrefix win = .ok i left →
    step s = exec i { t with requests := s.requests }) ∧
  (∀ (s : State), s.requests = [] → step s = .next s)

/-- DECODE AND ENCODE AGREE (R91, R93, R94, R95, R101, R106): decoding what the encoder writes gives the instruction back,
with every operand at every value, and leaves the bytes that follow. -/
def Obligations.DecodeOfEncode : Prop :=
  ∀ (i : Instr) (rest : List Byte),
    decodeEncoded (encode i) rest = .ok i (match encode i with | .stream _ _ => rest | .port _ => [])

/-- The other direction (R102, R108): the bytes a decoder consumed are the words the encoder writes. -/
def Obligations.EncodeOfDecode : Prop :=
  ∀ (fmt : Format) (bytes rest : List Byte) (i : Instr), decode fmt bytes = .ok i rest →
    ∃ word, encode i = .stream fmt word ∧ word ++ rest = bytes

/-- A few words written out from the encodings of R91, R93, R101, R106 (those of 95_test_vectors.md §2). -/
def Obligations.WordsDecode : Prop :=
  decodeSpecifier false [0b01000110#8, 0xF0#8] = .ok (.a16M1Rm6 0b000#3 0xF0#8) [] ∧
  decodeSpecifier false [0b10011001#8, 0x34#8, 0x12#8] = .ok (.a16M2Rm1 0b011#3 0x1234#16) [] ∧
  decodeSpecifier true [0b00101101#8, 0x10#8, 0#8, 0#8, 0x80#8] = .ok (.a32M0Rm5 0b101#3 0x80000010#32) [] ∧
  decodeSpecifier true [0b00000100#8, 0b00100101#8, 0x10#8, 0#8, 0#8, 0x80#8] = .ok (.a32SibM0B5I4 0#3 0#2 0x80000010#32) [] ∧
  decodeSpecifier true [0b01000100#8, 0b10001101#8, 0xF0#8] = .ok (.a32SibM1B5I1 0#3 0b10#2 0xF0#8) [] ∧
  decodeSpecifier true [0b11011000#8] = .ok (.a32Reg 0b011#3 0b000#3) [] ∧
  decodePrefix [0x64#8] = .ok .prefixFs [] ∧ decodePort 0b0101#4 = .ok .writePdBase []

/-- The invariant holds right after reset. (The reset values of the consumed state that it speaks of, the window's length
alone, are log 6.) -/
def Obligations.InvariantAtReset : Prop := State.reset.Inv

/-- AN INVARIANT THAT EVERY STEP KEEPS, from every state that meets it: the directory base is a multiple of 4096 (R21), the
A20 mask has one of its two values (R23), the cache has the form of R24, memory is canonical and within PHYS_SIZE (R27), the
window has 16 bytes and the cursor is 0 to 16 (R38, R39), the parameters are legal (R6). -/
def Obligations.EveryStepKeepsInvariant : Prop :=
  ∀ (s t : State), s.Inv → step s = .next t → t.Inv

/-- R275, R291 (D31): no instruction of the block raises a terminal fault by itself: a run none of whose requests is a CPU
instruction's dispatch cycle is safe. -/
def Obligations.OnlyCyclesRaiseTerminalFaults : Prop :=
  (∀ (i : Instr) (s : State) (f : Fault), exec i s ≠ .fault f) ∧
  (∀ (s : State), (∀ r ∈ s.requests, ∀ answer, r ≠ .cycle answer) → SafeRun s)

/-- R263 (D34): "For an inout operand that does not straddle a page, the write-back cannot fault if the read did not …, unless
the handler itself causes a `WritePdBase` or `FlushCache`": with every operand read and a handler that causes neither, no
PageFault of kind Write is signalled for an address in the page of such an operand, r/m or implicit (log 37). -/
def Obligations.InoutWriteBackDoesNotFault : Prop :=
  ∀ (s v x : State) (d : Descriptor) (h : HandlerAnswer) (rest : List Request) (loc : Option (Location × RegIdx))
    (imm : List Byte) (implicit : List (Option Nat)) (rm : Option Nat) (a : Word),
    operandsRead s d h rest loc imm implicit rm v → (∀ op ∈ h.operations, ∃ enabled, op = .setA20 enabled) →
    step s = .next x → x.out = .pageFault a .write →
    (∀ kind w seg offset linear reg, rmOperand d.specifier = some (.location kind w .inout) →
      loc = some (.memory seg offset linear, reg) → linear.toNat % 4096 + w.bytes ≤ 4096 →
      a.toNat / 4096 ≠ linear.toNat / 4096) ∧
    (∀ o ∈ d.implicit, ∀ seg offset linear, o.dir = .inout → implicitAt s o = .memory seg offset linear →
      linear.toNat % 4096 + o.width.bytes ≤ 4096 → a.toNat / 4096 ≠ linear.toNat / 4096)

/-- R317, R280: "an instruction with two memory write-backs can leave the first committed". Where a memory write-back raises
PageFault, the r/m operand's after all implicit ones or an implicit one's after those before it, the cycle signals it, IP is
unchanged, and whatever the write-backs before it stored stays stored, as do the bytes a straddling one stored before its
faulting byte. (The order of the write-backs: log 23. Implicit operands whose address is an input: D36, log 37.) -/
def Obligations.FaultingWriteBackKeepsEarlierOnes : Prop :=
  ∀ (s v y z : State) (d : Descriptor) (h : HandlerAnswer) (rest : List Request) (loc : Option (Location × RegIdx))
    (imm : List Byte) (implicit : List (Option Nat)) (rm : Option Nat) (l a : Word) (kind : AccessKind),
    operandsRead s d h rest loc imm implicit rm v → basesAligned h →
    (∀ allowed w dir seg offset reg, rmOperand d.specifier = some (.location allowed w dir) → dir ≠ .input →
      loc = some (.memory seg offset l, reg) →
      implicitStores d.implicit h.implicit (registersWrittenBack d h loc (afterHandler h v)) y →
      memWrite l (leBytes w.bytes h.rm) y = .pageFault a kind z → stopsIn s y z l a kind (leBytes w.bytes h.rm)) ∧
    (∀ before o after vs value ws, d.implicit = before ++ o :: after → h.implicit = vs ++ value :: ws →
      vs.length = before.length → o.dir ≠ .input → implicitAt s o = .memory o.seg o.offset l →
      implicitStores before vs (registersWrittenBack d h loc (afterHandler h v)) y →
      memWrite l (leBytes o.width.bytes value) y = .pageFault a kind z →
      stopsIn s y z l a kind (leBytes o.width.bytes value))

end
end

