-- ==== Sys2Proof/Laws/State.lean ====
section
/-! SUPPORT. One lemma per field per named update of the state: what the update leaves in the field. -/

namespace Sys2Proof.Machine

/-! ### setOut -/

@[simp] theorem State.setOut_cfg (s : State) (o : Output) : (s.setOut o).cfg = s.cfg := rfl
@[simp] theorem State.setOut_pdBase (s : State) (o : Output) : (s.setOut o).pdBase = s.pdBase := rfl
@[simp] theorem State.setOut_a20Mask (s : State) (o : Output) : (s.setOut o).a20Mask = s.a20Mask := rfl
@[simp] theorem State.setOut_tcache (s : State) (o : Output) : (s.setOut o).tcache = s.tcache := rfl
@[simp] theorem State.setOut_walkCount (s : State) (o : Output) : (s.setOut o).walkCount = s.walkCount := rfl
@[simp] theorem State.setOut_pmem (s : State) (o : Output) : (s.setOut o).pmem = s.pmem := rfl
@[simp] theorem State.setOut_gpr (s : State) (o : Output) : (s.setOut o).gpr = s.gpr := rfl
@[simp] theorem State.setOut_segBase (s : State) (o : Output) : (s.setOut o).segBase = s.segBase := rfl
@[simp] theorem State.setOut_ip (s : State) (o : Output) : (s.setOut o).ip = s.ip := rfl
@[simp] theorem State.setOut_flags (s : State) (o : Output) : (s.setOut o).flags = s.flags := rfl
@[simp] theorem State.setOut_addressSize32 (s : State) (o : Output) : (s.setOut o).addressSize32 = s.addressSize32 := rfl
@[simp] theorem State.setOut_operandSize32 (s : State) (o : Output) : (s.setOut o).operandSize32 = s.operandSize32 := rfl
@[simp] theorem State.setOut_defaultAddressSize32 (s : State) (o : Output) : (s.setOut o).defaultAddressSize32 = s.defaultAddressSize32 := rfl
@[simp] theorem State.setOut_defaultOperandSize32 (s : State) (o : Output) : (s.setOut o).defaultOperandSize32 = s.defaultOperandSize32 := rfl
@[simp] theorem State.setOut_win (s : State) (o : Output) : (s.setOut o).win = s.win := rfl
@[simp] theorem State.setOut_cursor (s : State) (o : Output) : (s.setOut o).cursor = s.cursor := rfl
@[simp] theorem State.setOut_segOverride (s : State) (o : Output) : (s.setOut o).segOverride = s.segOverride := rfl
@[simp] theorem State.setOut_requests (s : State) (o : Output) : (s.setOut o).requests = s.requests := rfl
@[simp] theorem State.setOut_args (s : State) (o : Output) : (s.setOut o).args = s.args := rfl
@[simp] theorem State.setOut_out (s : State) (o : Output) : (s.setOut o).out = o := rfl
@[simp] theorem State.setOut_videoCalls (s : State) (o : Output) : (s.setOut o).videoCalls = s.videoCalls := rfl
@[simp] theorem State.setOut_freeIndex (s : State) (o : Output) : (s.setOut o).freeIndex = s.freeIndex := rfl

/-! ### setCursor -/

@[simp] theorem State.setCursor_cfg (s : State) (c : Nat) : (s.setCursor c).cfg = s.cfg := rfl
@[simp] theorem State.setCursor_pdBase (s : State) (c : Nat) : (s.setCursor c).pdBase = s.pdBase := rfl
@[simp] theorem State.setCursor_a20Mask (s : State) (c : Nat) : (s.setCursor c).a20Mask = s.a20Mask := rfl
@[simp] theorem State.setCursor_tcache (s : State) (c : Nat) : (s.setCursor c).tcache = s.tcache := rfl
@[simp] theorem State.setCursor_walkCount (s : State) (c : Nat) : (s.setCursor c).walkCount = s.walkCount := rfl
@[simp] theorem State.setCursor_pmem (s : State) (c : Nat) : (s.setCursor c).pmem = s.pmem := rfl
@[simp] theorem State.setCursor_gpr (s : State) (c : Nat) : (s.setCursor c).gpr = s.gpr := rfl
@[simp] theorem State.setCursor_segBase (s : State) (c : Nat) : (s.setCursor c).segBase = s.segBase := rfl
@[simp] theorem State.setCursor_ip (s : State) (c : Nat) : (s.setCursor c).ip = s.ip := rfl
@[simp] theorem State.setCursor_flags (s : State) (c : Nat) : (s.setCursor c).flags = s.flags := rfl
@[simp] theorem State.setCursor_addressSize32 (s : State) (c : Nat) : (s.setCursor c).addressSize32 = s.addressSize32 := rfl
@[simp] theorem State.setCursor_operandSize32 (s : State) (c : Nat) : (s.setCursor c).operandSize32 = s.operandSize32 := rfl
@[simp] theorem State.setCursor_defaultAddressSize32 (s : State) (c : Nat) : (s.setCursor c).defaultAddressSize32 = s.defaultAddressSize32 := rfl
@[simp] theorem State.setCursor_defaultOperandSize32 (s : State) (c : Nat) : (s.setCursor c).defaultOperandSize32 = s.defaultOperandSize32 := rfl
@[simp] theorem State.setCursor_win (s : State) (c : Nat) : (s.setCursor c).win = s.win := rfl
@[simp] theorem State.setCursor_cursor (s : State) (c : Nat) : (s.setCursor c).cursor = c := rfl
@[simp] theorem State.setCursor_segOverride (s : State) (c : Nat) : (s.setCursor c).segOverride = s.segOverride := rfl
@[simp] theorem State.setCursor_requests (s : State) (c : Nat) : (s.setCursor c).requests = s.requests := rfl
@[simp] theorem State.setCursor_args (s : State) (c : Nat) : (s.setCursor c).args = s.args := rfl
@[simp] theorem State.setCursor_out (s : State) (c : Nat) : (s.setCursor c).out = s.out := rfl
@[simp] theorem State.setCursor_videoCalls (s : State) (c : Nat) : (s.setCursor c).videoCalls = s.videoCalls := rfl
@[simp] theorem State.setCursor_freeIndex (s : State) (c : Nat) : (s.setCursor c).freeIndex = s.freeIndex := rfl

/-! ### setMem -/

@[simp] theorem State.setMem_cfg (s : State) (m : List Host.Cell) : (s.setMem m).cfg = s.cfg := rfl
@[simp] theorem State.setMem_pdBase (s : State) (m : List Host.Cell) : (s.setMem m).pdBase = s.pdBase := rfl
@[simp] theorem State.setMem_a20Mask (s : State) (m : List Host.Cell) : (s.setMem m).a20Mask = s.a20Mask := rfl
@[simp] theorem State.setMem_tcache (s : State) (m : List Host.Cell) : (s.setMem m).tcache = s.tcache := rfl
@[simp] theorem State.setMem_walkCount (s : State) (m : List Host.Cell) : (s.setMem m).walkCount = s.walkCount := rfl
@[simp] theorem State.setMem_pmem (s : State) (m : List Host.Cell) : (s.setMem m).pmem = m := rfl
@[simp] theorem State.setMem_gpr (s : State) (m : List Host.Cell) : (s.setMem m).gpr = s.gpr := rfl
@[simp] theorem State.setMem_segBase (s : State) (m : List Host.Cell) : (s.setMem m).segBase = s.segBase := rfl
@[simp] theorem State.setMem_ip (s : State) (m : List Host.Cell) : (s.setMem m).ip = s.ip := rfl
@[simp] theorem State.setMem_flags (s : State) (m : List Host.Cell) : (s.setMem m).flags = s.flags := rfl
@[simp] theorem State.setMem_addressSize32 (s : State) (m : List Host.Cell) : (s.setMem m).addressSize32 = s.addressSize32 := rfl
@[simp] theorem State.setMem_operandSize32 (s : State) (m : List Host.Cell) : (s.setMem m).operandSize32 = s.operandSize32 := rfl
@[simp] theorem State.setMem_defaultAddressSize32 (s : State) (m : List Host.Cell) : (s.setMem m).defaultAddressSize32 = s.defaultAddressSize32 := rfl
@[simp] theorem State.setMem_defaultOperandSize32 (s : State) (m : List Host.Cell) : (s.setMem m).defaultOperandSize32 = s.defaultOperandSize32 := rfl
@[simp] theorem State.setMem_win (s : State) (m : List Host.Cell) : (s.setMem m).win = s.win := rfl
@[simp] theorem State.setMem_cursor (s : State) (m : List Host.Cell) : (s.setMem m).cursor = s.cursor := rfl
@[simp] theorem State.setMem_segOverride (s : State) (m : List Host.Cell) : (s.setMem m).segOverride = s.segOverride := rfl
@[simp] theorem State.setMem_requests (s : State) (m : List Host.Cell) : (s.setMem m).requests = s.requests := rfl
@[simp] theorem State.setMem_args (s : State) (m : List Host.Cell) : (s.setMem m).args = s.args := rfl
@[simp] theorem State.setMem_out (s : State) (m : List Host.Cell) : (s.setMem m).out = s.out := rfl
@[simp] theorem State.setMem_videoCalls (s : State) (m : List Host.Cell) : (s.setMem m).videoCalls = s.videoCalls := rfl
@[simp] theorem State.setMem_freeIndex (s : State) (m : List Host.Cell) : (s.setMem m).freeIndex = s.freeIndex := rfl

/-! ### countWalk -/

@[simp] theorem State.countWalk_cfg (s : State) : (s.countWalk).cfg = s.cfg := rfl
@[simp] theorem State.countWalk_pdBase (s : State) : (s.countWalk).pdBase = s.pdBase := rfl
@[simp] theorem State.countWalk_a20Mask (s : State) : (s.countWalk).a20Mask = s.a20Mask := rfl
@[simp] theorem State.countWalk_tcache (s : State) : (s.countWalk).tcache = s.tcache := rfl
@[simp] theorem State.countWalk_walkCount (s : State) : (s.countWalk).walkCount = s.walkCount + 1 := rfl
@[simp] theorem State.countWalk_pmem (s : State) : (s.countWalk).pmem = s.pmem := rfl
@[simp] theorem State.countWalk_gpr (s : State) : (s.countWalk).gpr = s.gpr := rfl
@[simp] theorem State.countWalk_segBase (s : State) : (s.countWalk).segBase = s.segBase := rfl
@[simp] theorem State.countWalk_ip (s : State) : (s.countWalk).ip = s.ip := rfl
@[simp] theorem State.countWalk_flags (s : State) : (s.countWalk).flags = s.flags := rfl
@[simp] theorem State.countWalk_addressSize32 (s : State) : (s.countWalk).addressSize32 = s.addressSize32 := rfl
@[simp] theorem State.countWalk_operandSize32 (s : State) : (s.countWalk).operandSize32 = s.operandSize32 := rfl
@[simp] theorem State.countWalk_defaultAddressSize32 (s : State) : (s.countWalk).defaultAddressSize32 = s.defaultAddressSize32 := rfl
@[simp] theorem State.countWalk_defaultOperandSize32 (s : State) : (s.countWalk).defaultOperandSize32 = s.defaultOperandSize32 := rfl
@[simp] theorem State.countWalk_win (s : State) : (s.countWalk).win = s.win := rfl
@[simp] theorem State.countWalk_cursor (s : State) : (s.countWalk).cursor = s.cursor := rfl
@[simp] theorem State.countWalk_segOverride (s : State) : (s.countWalk).segOverride = s.segOverride := rfl
@[simp] theorem State.countWalk_requests (s : State) : (s.countWalk).requests = s.requests := rfl
@[simp] theorem State.countWalk_args (s : State) : (s.countWalk).args = s.args := rfl
@[simp] theorem State.countWalk_out (s : State) : (s.countWalk).out = s.out := rfl
@[simp] theorem State.countWalk_videoCalls (s : State) : (s.countWalk).videoCalls = s.videoCalls := rfl
@[simp] theorem State.countWalk_freeIndex (s : State) : (s.countWalk).freeIndex = s.freeIndex := rfl

/-! ### setTcache -/

@[simp] theorem State.setTcache_cfg (s : State) (t : List (Nat × Word)) : (s.setTcache t).cfg = s.cfg := rfl
@[simp] theorem State.setTcache_pdBase (s : State) (t : List (Nat × Word)) : (s.setTcache t).pdBase = s.pdBase := rfl
@[simp] theorem State.setTcache_a20Mask (s : State) (t : List (Nat × Word)) : (s.setTcache t).a20Mask = s.a20Mask := rfl
@[simp] theorem State.setTcache_tcache (s : State) (t : List (Nat × Word)) : (s.setTcache t).tcache = t := rfl
@[simp] theorem State.setTcache_walkCount (s : State) (t : List (Nat × Word)) : (s.setTcache t).walkCount = s.walkCount := rfl
@[simp] theorem State.setTcache_pmem (s : State) (t : List (Nat × Word)) : (s.setTcache t).pmem = s.pmem := rfl
@[simp] theorem State.setTcache_gpr (s : State) (t : List (Nat × Word)) : (s.setTcache t).gpr = s.gpr := rfl
@[simp] theorem State.setTcache_segBase (s : State) (t : List (Nat × Word)) : (s.setTcache t).segBase = s.segBase := rfl
@[simp] theorem State.setTcache_ip (s : State) (t : List (Nat × Word)) : (s.setTcache t).ip = s.ip := rfl
@[simp] theorem State.setTcache_flags (s : State) (t : List (Nat × Word)) : (s.setTcache t).flags = s.flags := rfl
@[simp] theorem State.setTcache_addressSize32 (s : State) (t : List (Nat × Word)) : (s.setTcache t).addressSize32 = s.addressSize32 := rfl
@[simp] theorem State.setTcache_operandSize32 (s : State) (t : List (Nat × Word)) : (s.setTcache t).operandSize32 = s.operandSize32 := rfl
@[simp] theorem State.setTcache_defaultAddressSize32 (s : State) (t : List (Nat × Word)) : (s.setTcache t).defaultAddressSize32 = s.defaultAddressSize32 := rfl
@[simp] theorem State.setTcache_defaultOperandSize32 (s : State) (t : List (Nat × Word)) : (s.setTcache t).defaultOperandSize32 = s.defaultOperandSize32 := rfl
@[simp] theorem State.setTcache_win (s : State) (t : List (Nat × Word)) : (s.setTcache t).win = s.win := rfl
@[simp] theorem State.setTcache_cursor (s : State) (t : List (Nat × Word)) : (s.setTcache t).cursor = s.cursor := rfl
@[simp] theorem State.setTcache_segOverride (s : State) (t : List (Nat × Word)) : (s.setTcache t).segOverride = s.segOverride := rfl
@[simp] theorem State.setTcache_requests (s : State) (t : List (Nat × Word)) : (s.setTcache t).requests = s.requests := rfl
@[simp] theorem State.setTcache_args (s : State) (t : List (Nat × Word)) : (s.setTcache t).args = s.args := rfl
@[simp] theorem State.setTcache_out (s : State) (t : List (Nat × Word)) : (s.setTcache t).out = s.out := rfl
@[simp] theorem State.setTcache_videoCalls (s : State) (t : List (Nat × Word)) : (s.setTcache t).videoCalls = s.videoCalls := rfl
@[simp] theorem State.setTcache_freeIndex (s : State) (t : List (Nat × Word)) : (s.setTcache t).freeIndex = s.freeIndex := rfl

/-! ### setWindow -/

@[simp] theorem State.setWindow_cfg (s : State) (w : List Byte) : (s.setWindow w).cfg = s.cfg := rfl
@[simp] theorem State.setWindow_pdBase (s : State) (w : List Byte) : (s.setWindow w).pdBase = s.pdBase := rfl
@[simp] theorem State.setWindow_a20Mask (s : State) (w : List Byte) : (s.setWindow w).a20Mask = s.a20Mask := rfl
@[simp] theorem State.setWindow_tcache (s : State) (w : List Byte) : (s.setWindow w).tcache = s.tcache := rfl
@[simp] theorem State.setWindow_walkCount (s : State) (w : List Byte) : (s.setWindow w).walkCount = s.walkCount := rfl
@[simp] theorem State.setWindow_pmem (s : State) (w : List Byte) : (s.setWindow w).pmem = s.pmem := rfl
@[simp] theorem State.setWindow_gpr (s : State) (w : List Byte) : (s.setWindow w).gpr = s.gpr := rfl
@[simp] theorem State.setWindow_segBase (s : State) (w : List Byte) : (s.setWindow w).segBase = s.segBase := rfl
@[simp] theorem State.setWindow_ip (s : State) (w : List Byte) : (s.setWindow w).ip = s.ip := rfl
@[simp] theorem State.setWindow_flags (s : State) (w : List Byte) : (s.setWindow w).flags = s.flags := rfl
@[simp] theorem State.setWindow_addressSize32 (s : State) (w : List Byte) : (s.setWindow w).addressSize32 = s.addressSize32 := rfl
@[simp] theorem State.setWindow_operandSize32 (s : State) (w : List Byte) : (s.setWindow w).operandSize32 = s.operandSize32 := rfl
@[simp] theorem State.setWindow_defaultAddressSize32 (s : State) (w : List Byte) : (s.setWindow w).defaultAddressSize32 = s.defaultAddressSize32 := rfl
@[simp] theorem State.setWindow_defaultOperandSize32 (s : State) (w : List Byte) : (s.setWindow w).defaultOperandSize32 = s.defaultOperandSize32 := rfl
@[simp] theorem State.setWindow_win (s : State) (w : List Byte) : (s.setWindow w).win = w := rfl
@[simp] theorem State.setWindow_cursor (s : State) (w : List Byte) : (s.setWindow w).cursor = 0 := rfl
@[simp] theorem State.setWindow_segOverride (s : State) (w : List Byte) : (s.setWindow w).segOverride = s.segOverride := rfl
@[simp] theorem State.setWindow_requests (s : State) (w : List Byte) : (s.setWindow w).requests = s.requests := rfl
@[simp] theorem State.setWindow_args (s : State) (w : List Byte) : (s.setWindow w).args = s.args := rfl
@[simp] theorem State.setWindow_out (s : State) (w : List Byte) : (s.setWindow w).out = s.out := rfl
@[simp] theorem State.setWindow_videoCalls (s : State) (w : List Byte) : (s.setWindow w).videoCalls = s.videoCalls := rfl
@[simp] theorem State.setWindow_freeIndex (s : State) (w : List Byte) : (s.setWindow w).freeIndex = s.freeIndex := rfl

/-! ### logVideo -/

@[simp] theorem State.logVideo_cfg (s : State) (c : VideoCall) : (s.logVideo c).cfg = s.cfg := rfl
@[simp] theorem State.logVideo_pdBase (s : State) (c : VideoCall) : (s.logVideo c).pdBase = s.pdBase := rfl
@[simp] theorem State.logVideo_a20Mask (s : State) (c : VideoCall) : (s.logVideo c).a20Mask = s.a20Mask := rfl
@[simp] theorem State.logVideo_tcache (s : State) (c : VideoCall) : (s.logVideo c).tcache = s.tcache := rfl
@[simp] theorem State.logVideo_walkCount (s : State) (c : VideoCall) : (s.logVideo c).walkCount = s.walkCount := rfl
@[simp] theorem State.logVideo_pmem (s : State) (c : VideoCall) : (s.logVideo c).pmem = s.pmem := rfl
@[simp] theorem State.logVideo_gpr (s : State) (c : VideoCall) : (s.logVideo c).gpr = s.gpr := rfl
@[simp] theorem State.logVideo_segBase (s : State) (c : VideoCall) : (s.logVideo c).segBase = s.segBase := rfl
@[simp] theorem State.logVideo_ip (s : State) (c : VideoCall) : (s.logVideo c).ip = s.ip := rfl
@[simp] theorem State.logVideo_flags (s : State) (c : VideoCall) : (s.logVideo c).flags = s.flags := rfl
@[simp] theorem State.logVideo_addressSize32 (s : State) (c : VideoCall) : (s.logVideo c).addressSize32 = s.addressSize32 := rfl
@[simp] theorem State.logVideo_operandSize32 (s : State) (c : VideoCall) : (s.logVideo c).operandSize32 = s.operandSize32 := rfl
@[simp] theorem State.logVideo_defaultAddressSize32 (s : State) (c : VideoCall) : (s.logVideo c).defaultAddressSize32 = s.defaultAddressSize32 := rfl
@[simp] theorem State.logVideo_defaultOperandSize32 (s : State) (c : VideoCall) : (s.logVideo c).defaultOperandSize32 = s.defaultOperandSize32 := rfl
@[simp] theorem State.logVideo_win (s : State) (c : VideoCall) : (s.logVideo c).win = s.win := rfl
@[simp] theorem State.logVideo_cursor (s : State) (c : VideoCall) : (s.logVideo c).cursor = s.cursor := rfl
@[simp] theorem State.logVideo_segOverride (s : State) (c : VideoCall) : (s.logVideo c).segOverride = s.segOverride := rfl
@[simp] theorem State.logVideo_requests (s : State) (c : VideoCall) : (s.logVideo c).requests = s.requests := rfl
@[simp] theorem State.logVideo_args (s : State) (c : VideoCall) : (s.logVideo c).args = s.args := rfl
@[simp] theorem State.logVideo_out (s : State) (c : VideoCall) : (s.logVideo c).out = s.out := rfl
@[simp] theorem State.logVideo_videoCalls (s : State) (c : VideoCall) : (s.logVideo c).videoCalls = s.videoCalls ++ [c] := rfl
@[simp] theorem State.logVideo_freeIndex (s : State) (c : VideoCall) : (s.logVideo c).freeIndex = s.freeIndex := rfl

/-! ### drawFree -/

@[simp] theorem State.drawFree_cfg (s : State) : (s.drawFree).cfg = s.cfg := rfl
@[simp] theorem State.drawFree_pdBase (s : State) : (s.drawFree).pdBase = s.pdBase := rfl
@[simp] theorem State.drawFree_a20Mask (s : State) : (s.drawFree).a20Mask = s.a20Mask := rfl
@[simp] theorem State.drawFree_tcache (s : State) : (s.drawFree).tcache = s.tcache := rfl
@[simp] theorem State.drawFree_walkCount (s : State) : (s.drawFree).walkCount = s.walkCount := rfl
@[simp] theorem State.drawFree_pmem (s : State) : (s.drawFree).pmem = s.pmem := rfl
@[simp] theorem State.drawFree_gpr (s : State) : (s.drawFree).gpr = s.gpr := rfl
@[simp] theorem State.drawFree_segBase (s : State) : (s.drawFree).segBase = s.segBase := rfl
@[simp] theorem State.drawFree_ip (s : State) : (s.drawFree).ip = s.ip := rfl
@[simp] theorem State.drawFree_flags (s : State) : (s.drawFree).flags = s.flags := rfl
@[simp] theorem State.drawFree_addressSize32 (s : State) : (s.drawFree).addressSize32 = s.addressSize32 := rfl
@[simp] theorem State.drawFree_operandSize32 (s : State) : (s.drawFree).operandSize32 = s.operandSize32 := rfl
@[simp] theorem State.drawFree_defaultAddressSize32 (s : State) : (s.drawFree).defaultAddressSize32 = s.defaultAddressSize32 := rfl
@[simp] theorem State.drawFree_defaultOperandSize32 (s : State) : (s.drawFree).defaultOperandSize32 = s.defaultOperandSize32 := rfl
@[simp] theorem State.drawFree_win (s : State) : (s.drawFree).win = s.win := rfl
@[simp] theorem State.drawFree_cursor (s : State) : (s.drawFree).cursor = s.cursor := rfl
@[simp] theorem State.drawFree_segOverride (s : State) : (s.drawFree).segOverride = s.segOverride := rfl
@[simp] theorem State.drawFree_requests (s : State) : (s.drawFree).requests = s.requests := rfl
@[simp] theorem State.drawFree_args (s : State) : (s.drawFree).args = s.args := rfl
@[simp] theorem State.drawFree_out (s : State) : (s.drawFree).out = s.out := rfl
@[simp] theorem State.drawFree_videoCalls (s : State) : (s.drawFree).videoCalls = s.videoCalls := rfl
@[simp] theorem State.drawFree_freeIndex (s : State) : (s.drawFree).freeIndex = s.freeIndex + 1 := rfl

/-! ### setFlags -/

@[simp] theorem State.setFlags_cfg (s : State) (v : Word) : (s.setFlags v).cfg = s.cfg := rfl
@[simp] theorem State.setFlags_pdBase (s : State) (v : Word) : (s.setFlags v).pdBase = s.pdBase := rfl
@[simp] theorem State.setFlags_a20Mask (s : State) (v : Word) : (s.setFlags v).a20Mask = s.a20Mask := rfl
@[simp] theorem State.setFlags_tcache (s : State) (v : Word) : (s.setFlags v).tcache = s.tcache := rfl
@[simp] theorem State.setFlags_walkCount (s : State) (v : Word) : (s.setFlags v).walkCount = s.walkCount := rfl
@[simp] theorem State.setFlags_pmem (s : State) (v : Word) : (s.setFlags v).pmem = s.pmem := rfl
@[simp] theorem State.setFlags_gpr (s : State) (v : Word) : (s.setFlags v).gpr = s.gpr := rfl
@[simp] theorem State.setFlags_segBase (s : State) (v : Word) : (s.setFlags v).segBase = s.segBase := rfl
@[simp] theorem State.setFlags_ip (s : State) (v : Word) : (s.setFlags v).ip = s.ip := rfl
@[simp] theorem State.setFlags_flags (s : State) (v : Word) : (s.setFlags v).flags = v := rfl
@[simp] theorem State.setFlags_addressSize32 (s : State) (v : Word) : (s.setFlags v).addressSize32 = s.addressSize32 := rfl
@[simp] theorem State.setFlags_operandSize32 (s : State) (v : Word) : (s.setFlags v).operandSize32 = s.operandSize32 := rfl
@[simp] theorem State.setFlags_defaultAddressSize32 (s : State) (v : Word) : (s.setFlags v).defaultAddressSize32 = s.defaultAddressSize32 := rfl
@[simp] theorem State.setFlags_defaultOperandSize32 (s : State) (v : Word) : (s.setFlags v).defaultOperandSize32 = s.defaultOperandSize32 := rfl
@[simp] theorem State.setFlags_win (s : State) (v : Word) : (s.setFlags v).win = s.win := rfl
@[simp] theorem State.setFlags_cursor (s : State) (v : Word) : (s.setFlags v).cursor = s.cursor := rfl
@[simp] theorem State.setFlags_segOverride (s : State) (v : Word) : (s.setFlags v).segOverride = s.segOverride := rfl
@[simp] theorem State.setFlags_requests (s : State) (v : Word) : (s.setFlags v).requests = s.requests := rfl
@[simp] theorem State.setFlags_args (s : State) (v : Word) : (s.setFlags v).args = s.args := rfl
@[simp] theorem State.setFlags_out (s : State) (v : Word) : (s.setFlags v).out = s.out := rfl
@[simp] theorem State.setFlags_videoCalls (s : State) (v : Word) : (s.setFlags v).videoCalls = s.videoCalls := rfl
@[simp] theorem State.setFlags_freeIndex (s : State) (v : Word) : (s.setFlags v).freeIndex = s.freeIndex := rfl

/-! ### setGpr32 -/

@[simp] theorem State.setGpr32_cfg (s : State) (i : RegIdx) (v : Word) : (s.setGpr32 i v).cfg = s.cfg := rfl
@[simp] theorem State.setGpr32_pdBase (s : State) (i : RegIdx) (v : Word) : (s.setGpr32 i v).pdBase = s.pdBase := rfl
@[simp] theorem State.setGpr32_a20Mask (s : State) (i : RegIdx) (v : Word) : (s.setGpr32 i v).a20Mask = s.a20Mask := rfl
@[simp] theorem State.setGpr32_tcache (s : State) (i : RegIdx) (v : Word) : (s.setGpr32 i v).tcache = s.tcache := rfl
@[simp] theorem State.setGpr32_walkCount (s : State) (i : RegIdx) (v : Word) : (s.setGpr32 i v).walkCount = s.walkCount := rfl
@[simp] theorem State.setGpr32_pmem (s : State) (i : RegIdx) (v : Word) : (s.setGpr32 i v).pmem = s.pmem := rfl
@[simp] theorem State.setGpr32_gpr (s : State) (i : RegIdx) (v : Word) : (s.setGpr32 i v).gpr = s.gpr.set i.toNat v (by have := i.isLt; omega) := rfl
@[simp] theorem State.setGpr32_segBase (s : State) (i : RegIdx) (v : Word) : (s.setGpr32 i v).segBase = s.segBase := rfl
@[simp] theorem State.setGpr32_ip (s : State) (i : RegIdx) (v : Word) : (s.setGpr32 i v).ip = s.ip := rfl
@[simp] theorem State.setGpr32_flags (s : State) (i : RegIdx) (v : Word) : (s.setGpr32 i v).flags = s.flags := rfl
@[simp] theorem State.setGpr32_addressSize32 (s : State) (i : RegIdx) (v : Word) : (s.setGpr32 i v).addressSize32 = s.addressSize32 := rfl
@[simp] theorem State.setGpr32_operandSize32 (s : State) (i : RegIdx) (v : Word) : (s.setGpr32 i v).operandSize32 = s.operandSize32 := rfl
@[simp] theorem State.setGpr32_defaultAddressSize32 (s : State) (i : RegIdx) (v : Word) : (s.setGpr32 i v).defaultAddressSize32 = s.defaultAddressSize32 := rfl
@[simp] theorem State.setGpr32_defaultOperandSize32 (s : State) (i : RegIdx) (v : Word) : (s.setGpr32 i v).defaultOperandSize32 = s.defaultOperandSize32 := rfl
@[simp] theorem State.setGpr32_win (s : State) (i : RegIdx) (v : Word) : (s.setGpr32 i v).win = s.win := rfl
@[simp] theorem State.setGpr32_cursor (s : State) (i : RegIdx) (v : Word) : (s.setGpr32 i v).cursor = s.cursor := rfl
@[simp] theorem State.setGpr32_segOverride (s : State) (i : RegIdx) (v : Word) : (s.setGpr32 i v).segOverride = s.segOverride := rfl
@[simp] theorem State.setGpr32_requests (s : State) (i : RegIdx) (v : Word) : (s.setGpr32 i v).requests = s.requests := rfl
@[simp] theorem State.setGpr32_args (s : State) (i : RegIdx) (v : Word) : (s.setGpr32 i v).args = s.args := rfl
@[simp] theorem State.setGpr32_out (s : State) (i : RegIdx) (v : Word) : (s.setGpr32 i v).out = s.out := rfl
@[simp] theorem State.setGpr32_videoCalls (s : State) (i : RegIdx) (v : Word) : (s.setGpr32 i v).videoCalls = s.videoCalls := rfl
@[simp] theorem State.setGpr32_freeIndex (s : State) (i : RegIdx) (v : Word) : (s.setGpr32 i v).freeIndex = s.freeIndex := rfl

/-! ### setSegBase -/

@[simp] theorem State.setSegBase_cfg (s : State) (seg : Seg) (v : Word) : (s.setSegBase seg v).cfg = s.cfg := rfl
@[simp] theorem State.setSegBase_pdBase (s : State) (seg : Seg) (v : Word) : (s.setSegBase seg v).pdBase = s.pdBase := rfl
@[simp] theorem State.setSegBase_a20Mask (s : State) (seg : Seg) (v : Word) : (s.setSegBase seg v).a20Mask = s.a20Mask := rfl
@[simp] theorem State.setSegBase_tcache (s : State) (seg : Seg) (v : Word) : (s.setSegBase seg v).tcache = s.tcache := rfl
@[simp] theorem State.setSegBase_walkCount (s : State) (seg : Seg) (v : Word) : (s.setSegBase seg v).walkCount = s.walkCount := rfl
@[simp] theorem State.setSegBase_pmem (s : State) (seg : Seg) (v : Word) : (s.setSegBase seg v).pmem = s.pmem := rfl
@[simp] theorem State.setSegBase_gpr (s : State) (seg : Seg) (v : Word) : (s.setSegBase seg v).gpr = s.gpr := rfl
@[simp] theorem State.setSegBase_segBase (s : State) (seg : Seg) (v : Word) : (s.setSegBase seg v).segBase = s.segBase.set (segIndex seg).val v (segIndex seg).isLt := rfl
@[simp] theorem State.setSegBase_ip (s : State) (seg : Seg) (v : Word) : (s.setSegBase seg v).ip = s.ip := rfl
@[simp] theorem State.setSegBase_flags (s : State) (seg : Seg) (v : Word) : (s.setSegBase seg v).flags = s.flags := rfl
@[simp] theorem State.setSegBase_addressSize32 (s : State) (seg : Seg) (v : Word) : (s.setSegBase seg v).addressSize32 = s.addressSize32 := rfl
@[simp] theorem State.setSegBase_operandSize32 (s : State) (seg : Seg) (v : Word) : (s.setSegBase seg v).operandSize32 = s.operandSize32 := rfl
@[simp] theorem State.setSegBase_defaultAddressSize32 (s : State) (seg : Seg) (v : Word) : (s.setSegBase seg v).defaultAddressSize32 = s.defaultAddressSize32 := rfl
@[simp] theorem State.setSegBase_defaultOperandSize32 (s : State) (seg : Seg) (v : Word) : (s.setSegBase seg v).defaultOperandSize32 = s.defaultOperandSize32 := rfl
@[simp] theorem State.setSegBase_win (s : State) (seg : Seg) (v : Word) : (s.setSegBase seg v).win = s.win := rfl
@[simp] theorem State.setSegBase_cursor (s : State) (seg : Seg) (v : Word) : (s.setSegBase seg v).cursor = s.cursor := rfl
@[simp] theorem State.setSegBase_segOverride (s : State) (seg : Seg) (v : Word) : (s.setSegBase seg v).segOverride = s.segOverride := rfl
@[simp] theorem State.setSegBase_requests (s : State) (seg : Seg) (v : Word) : (s.setSegBase seg v).requests = s.requests := rfl
@[simp] theorem State.setSegBase_args (s : State) (seg : Seg) (v : Word) : (s.setSegBase seg v).args = s.args := rfl
@[simp] theorem State.setSegBase_out (s : State) (seg : Seg) (v : Word) : (s.setSegBase seg v).out = s.out := rfl
@[simp] theorem State.setSegBase_videoCalls (s : State) (seg : Seg) (v : Word) : (s.setSegBase seg v).videoCalls = s.videoCalls := rfl
@[simp] theorem State.setSegBase_freeIndex (s : State) (seg : Seg) (v : Word) : (s.setSegBase seg v).freeIndex = s.freeIndex := rfl

/-! ### advanceIp -/

@[simp] theorem State.advanceIp_cfg (s : State) : (s.advanceIp).cfg = s.cfg := rfl
@[simp] theorem State.advanceIp_pdBase (s : State) : (s.advanceIp).pdBase = s.pdBase := rfl
@[simp] theorem State.advanceIp_a20Mask (s : State) : (s.advanceIp).a20Mask = s.a20Mask := rfl
@[simp] theorem State.advanceIp_tcache (s : State) : (s.advanceIp).tcache = s.tcache := rfl
@[simp] theorem State.advanceIp_walkCount (s : State) : (s.advanceIp).walkCount = s.walkCount := rfl
@[simp] theorem State.advanceIp_pmem (s : State) : (s.advanceIp).pmem = s.pmem := rfl
@[simp] theorem State.advanceIp_gpr (s : State) : (s.advanceIp).gpr = s.gpr := rfl
@[simp] theorem State.advanceIp_segBase (s : State) : (s.advanceIp).segBase = s.segBase := rfl
@[simp] theorem State.advanceIp_ip (s : State) : (s.advanceIp).ip = s.ip + BitVec.ofNat 32 s.cursor := rfl
@[simp] theorem State.advanceIp_flags (s : State) : (s.advanceIp).flags = s.flags := rfl
@[simp] theorem State.advanceIp_addressSize32 (s : State) : (s.advanceIp).addressSize32 = s.addressSize32 := rfl
@[simp] theorem State.advanceIp_operandSize32 (s : State) : (s.advanceIp).operandSize32 = s.operandSize32 := rfl
@[simp] theorem State.advanceIp_defaultAddressSize32 (s : State) : (s.advanceIp).defaultAddressSize32 = s.defaultAddressSize32 := rfl
@[simp] theorem State.advanceIp_defaultOperandSize32 (s : State) : (s.advanceIp).defaultOperandSize32 = s.defaultOperandSize32 := rfl
@[simp] theorem State.advanceIp_win (s : State) : (s.advanceIp).win = s.win := rfl
@[simp] theorem State.advanceIp_cursor (s : State) : (s.advanceIp).cursor = s.cursor := rfl
@[simp] theorem State.advanceIp_segOverride (s : State) : (s.advanceIp).segOverride = s.segOverride := rfl
@[simp] theorem State.advanceIp_requests (s : State) : (s.advanceIp).requests = s.requests := rfl
@[simp] theorem State.advanceIp_args (s : State) : (s.advanceIp).args = s.args := rfl
@[simp] theorem State.advanceIp_out (s : State) : (s.advanceIp).out = s.out := rfl
@[simp] theorem State.advanceIp_videoCalls (s : State) : (s.advanceIp).videoCalls = s.videoCalls := rfl
@[simp] theorem State.advanceIp_freeIndex (s : State) : (s.advanceIp).freeIndex = s.freeIndex := rfl

/-! ### setOverride -/

@[simp] theorem State.setOverride_cfg (s : State) (o : Option Seg) : (s.setOverride o).cfg = s.cfg := rfl
@[simp] theorem State.setOverride_pdBase (s : State) (o : Option Seg) : (s.setOverride o).pdBase = s.pdBase := rfl
@[simp] theorem State.setOverride_a20Mask (s : State) (o : Option Seg) : (s.setOverride o).a20Mask = s.a20Mask := rfl
@[simp] theorem State.setOverride_tcache (s : State) (o : Option Seg) : (s.setOverride o).tcache = s.tcache := rfl
@[simp] theorem State.setOverride_walkCount (s : State) (o : Option Seg) : (s.setOverride o).walkCount = s.walkCount := rfl
@[simp] theorem State.setOverride_pmem (s : State) (o : Option Seg) : (s.setOverride o).pmem = s.pmem := rfl
@[simp] theorem State.setOverride_gpr (s : State) (o : Option Seg) : (s.setOverride o).gpr = s.gpr := rfl
@[simp] theorem State.setOverride_segBase (s : State) (o : Option Seg) : (s.setOverride o).segBase = s.segBase := rfl
@[simp] theorem State.setOverride_ip (s : State) (o : Option Seg) : (s.setOverride o).ip = s.ip := rfl
@[simp] theorem State.setOverride_flags (s : State) (o : Option Seg) : (s.setOverride o).flags = s.flags := rfl
@[simp] theorem State.setOverride_addressSize32 (s : State) (o : Option Seg) : (s.setOverride o).addressSize32 = s.addressSize32 := rfl
@[simp] theorem State.setOverride_operandSize32 (s : State) (o : Option Seg) : (s.setOverride o).operandSize32 = s.operandSize32 := rfl
@[simp] theorem State.setOverride_defaultAddressSize32 (s : State) (o : Option Seg) : (s.setOverride o).defaultAddressSize32 = s.defaultAddressSize32 := rfl
@[simp] theorem State.setOverride_defaultOperandSize32 (s : State) (o : Option Seg) : (s.setOverride o).defaultOperandSize32 = s.defaultOperandSize32 := rfl
@[simp] theorem State.setOverride_win (s : State) (o : Option Seg) : (s.setOverride o).win = s.win := rfl
@[simp] theorem State.setOverride_cursor (s : State) (o : Option Seg) : (s.setOverride o).cursor = s.cursor := rfl
@[simp] theorem State.setOverride_segOverride (s : State) (o : Option Seg) : (s.setOverride o).segOverride = o := rfl
@[simp] theorem State.setOverride_requests (s : State) (o : Option Seg) : (s.setOverride o).requests = s.requests := rfl
@[simp] theorem State.setOverride_args (s : State) (o : Option Seg) : (s.setOverride o).args = s.args := rfl
@[simp] theorem State.setOverride_out (s : State) (o : Option Seg) : (s.setOverride o).out = s.out := rfl
@[simp] theorem State.setOverride_videoCalls (s : State) (o : Option Seg) : (s.setOverride o).videoCalls = s.videoCalls := rfl
@[simp] theorem State.setOverride_freeIndex (s : State) (o : Option Seg) : (s.setOverride o).freeIndex = s.freeIndex := rfl

/-! ### setSizes -/

@[simp] theorem State.setSizes_cfg (s : State) (a p : Bool) : (s.setSizes a p).cfg = s.cfg := rfl
@[simp] theorem State.setSizes_pdBase (s : State) (a p : Bool) : (s.setSizes a p).pdBase = s.pdBase := rfl
@[simp] theorem State.setSizes_a20Mask (s : State) (a p : Bool) : (s.setSizes a p).a20Mask = s.a20Mask := rfl
@[simp] theorem State.setSizes_tcache (s : State) (a p : Bool) : (s.setSizes a p).tcache = s.tcache := rfl
@[simp] theorem State.setSizes_walkCount (s : State) (a p : Bool) : (s.setSizes a p).walkCount = s.walkCount := rfl
@[simp] theorem State.setSizes_pmem (s : State) (a p : Bool) : (s.setSizes a p).pmem = s.pmem := rfl
@[simp] theorem State.setSizes_gpr (s : State) (a p : Bool) : (s.setSizes a p).gpr = s.gpr := rfl
@[simp] theorem State.setSizes_segBase (s : State) (a p : Bool) : (s.setSizes a p).segBase = s.segBase := rfl
@[simp] theorem State.setSizes_ip (s : State) (a p : Bool) : (s.setSizes a p).ip = s.ip := rfl
@[simp] theorem State.setSizes_flags (s : State) (a p : Bool) : (s.setSizes a p).flags = s.flags := rfl
@[simp] theorem State.setSizes_addressSize32 (s : State) (a p : Bool) : (s.setSizes a p).addressSize32 = a := rfl
@[simp] theorem State.setSizes_operandSize32 (s : State) (a p : Bool) : (s.setSizes a p).operandSize32 = p := rfl
@[simp] theorem State.setSizes_defaultAddressSize32 (s : State) (a p : Bool) : (s.setSizes a p).defaultAddressSize32 = s.defaultAddressSize32 := rfl
@[simp] theorem State.setSizes_defaultOperandSize32 (s : State) (a p : Bool) : (s.setSizes a p).defaultOperandSize32 = s.defaultOperandSize32 := rfl
@[simp] theorem State.setSizes_win (s : State) (a p : Bool) : (s.setSizes a p).win = s.win := rfl
@[simp] theorem State.setSizes_cursor (s : State) (a p : Bool) : (s.setSizes a p).cursor = s.cursor := rfl
@[simp] theorem State.setSizes_segOverride (s : State) (a p : Bool) : (s.setSizes a p).segOverride = s.segOverride := rfl
@[simp] theorem State.setSizes_requests (s : State) (a p : Bool) : (s.setSizes a p).requests = s.requests := rfl
@[simp] theorem State.setSizes_args (s : State) (a p : Bool) : (s.setSizes a p).args = s.args := rfl
@[simp] theorem State.setSizes_out (s : State) (a p : Bool) : (s.setSizes a p).out = s.out := rfl
@[simp] theorem State.setSizes_videoCalls (s : State) (a p : Bool) : (s.setSizes a p).videoCalls = s.videoCalls := rfl
@[simp] theorem State.setSizes_freeIndex (s : State) (a p : Bool) : (s.setSizes a p).freeIndex = s.freeIndex := rfl

/-! ### setPdBase -/

@[simp] theorem State.setPdBase_cfg (s : State) (v : Word) : (s.setPdBase v).cfg = s.cfg := rfl
@[simp] theorem State.setPdBase_pdBase (s : State) (v : Word) : (s.setPdBase v).pdBase = v := rfl
@[simp] theorem State.setPdBase_a20Mask (s : State) (v : Word) : (s.setPdBase v).a20Mask = s.a20Mask := rfl
@[simp] theorem State.setPdBase_tcache (s : State) (v : Word) : (s.setPdBase v).tcache = s.tcache := rfl
@[simp] theorem State.setPdBase_walkCount (s : State) (v : Word) : (s.setPdBase v).walkCount = s.walkCount := rfl
@[simp] theorem State.setPdBase_pmem (s : State) (v : Word) : (s.setPdBase v).pmem = s.pmem := rfl
@[simp] theorem State.setPdBase_gpr (s : State) (v : Word) : (s.setPdBase v).gpr = s.gpr := rfl
@[simp] theorem State.setPdBase_segBase (s : State) (v : Word) : (s.setPdBase v).segBase = s.segBase := rfl
@[simp] theorem State.setPdBase_ip (s : State) (v : Word) : (s.setPdBase v).ip = s.ip := rfl
@[simp] theorem State.setPdBase_flags (s : State) (v : Word) : (s.setPdBase v).flags = s.flags := rfl
@[simp] theorem State.setPdBase_addressSize32 (s : State) (v : Word) : (s.setPdBase v).addressSize32 = s.addressSize32 := rfl
@[simp] theorem State.setPdBase_operandSize32 (s : State) (v : Word) : (s.setPdBase v).operandSize32 = s.operandSize32 := rfl
@[simp] theorem State.setPdBase_defaultAddressSize32 (s : State) (v : Word) : (s.setPdBase v).defaultAddressSize32 = s.defaultAddressSize32 := rfl
@[simp] theorem State.setPdBase_defaultOperandSize32 (s : State) (v : Word) : (s.setPdBase v).defaultOperandSize32 = s.defaultOperandSize32 := rfl
@[simp] theorem State.setPdBase_win (s : State) (v : Word) : (s.setPdBase v).win = s.win := rfl
@[simp] theorem State.setPdBase_cursor (s : State) (v : Word) : (s.setPdBase v).cursor = s.cursor := rfl
@[simp] theorem State.setPdBase_segOverride (s : State) (v : Word) : (s.setPdBase v).segOverride = s.segOverride := rfl
@[simp] theorem State.setPdBase_requests (s : State) (v : Word) : (s.setPdBase v).requests = s.requests := rfl
@[simp] theorem State.setPdBase_args (s : State) (v : Word) : (s.setPdBase v).args = s.args := rfl
@[simp] theorem State.setPdBase_out (s : State) (v : Word) : (s.setPdBase v).out = s.out := rfl
@[simp] theorem State.setPdBase_videoCalls (s : State) (v : Word) : (s.setPdBase v).videoCalls = s.videoCalls := rfl
@[simp] theorem State.setPdBase_freeIndex (s : State) (v : Word) : (s.setPdBase v).freeIndex = s.freeIndex := rfl

/-! ### setA20Mask -/

@[simp] theorem State.setA20Mask_cfg (s : State) (v : Word) : (s.setA20Mask v).cfg = s.cfg := rfl
@[simp] theorem State.setA20Mask_pdBase (s : State) (v : Word) : (s.setA20Mask v).pdBase = s.pdBase := rfl
@[simp] theorem State.setA20Mask_a20Mask (s : State) (v : Word) : (s.setA20Mask v).a20Mask = v := rfl
@[simp] theorem State.setA20Mask_tcache (s : State) (v : Word) : (s.setA20Mask v).tcache = s.tcache := rfl
@[simp] theorem State.setA20Mask_walkCount (s : State) (v : Word) : (s.setA20Mask v).walkCount = s.walkCount := rfl
@[simp] theorem State.setA20Mask_pmem (s : State) (v : Word) : (s.setA20Mask v).pmem = s.pmem := rfl
@[simp] theorem State.setA20Mask_gpr (s : State) (v : Word) : (s.setA20Mask v).gpr = s.gpr := rfl
@[simp] theorem State.setA20Mask_segBase (s : State) (v : Word) : (s.setA20Mask v).segBase = s.segBase := rfl
@[simp] theorem State.setA20Mask_ip (s : State) (v : Word) : (s.setA20Mask v).ip = s.ip := rfl
@[simp] theorem State.setA20Mask_flags (s : State) (v : Word) : (s.setA20Mask v).flags = s.flags := rfl
@[simp] theorem State.setA20Mask_addressSize32 (s : State) (v : Word) : (s.setA20Mask v).addressSize32 = s.addressSize32 := rfl
@[simp] theorem State.setA20Mask_operandSize32 (s : State) (v : Word) : (s.setA20Mask v).operandSize32 = s.operandSize32 := rfl
@[simp] theorem State.setA20Mask_defaultAddressSize32 (s : State) (v : Word) : (s.setA20Mask v).defaultAddressSize32 = s.defaultAddressSize32 := rfl
@[simp] theorem State.setA20Mask_defaultOperandSize32 (s : State) (v : Word) : (s.setA20Mask v).defaultOperandSize32 = s.defaultOperandSize32 := rfl
@[simp] theorem State.setA20Mask_win (s : State) (v : Word) : (s.setA20Mask v).win = s.win := rfl
@[simp] theorem State.setA20Mask_cursor (s : State) (v : Word) : (s.setA20Mask v).cursor = s.cursor := rfl
@[simp] theorem State.setA20Mask_segOverride (s : State) (v : Word) : (s.setA20Mask v).segOverride = s.segOverride := rfl
@[simp] theorem State.setA20Mask_requests (s : State) (v : Word) : (s.setA20Mask v).requests = s.requests := rfl
@[simp] theorem State.setA20Mask_args (s : State) (v : Word) : (s.setA20Mask v).args = s.args := rfl
@[simp] theorem State.setA20Mask_out (s : State) (v : Word) : (s.setA20Mask v).out = s.out := rfl
@[simp] theorem State.setA20Mask_videoCalls (s : State) (v : Word) : (s.setA20Mask v).videoCalls = s.videoCalls := rfl
@[simp] theorem State.setA20Mask_freeIndex (s : State) (v : Word) : (s.setA20Mask v).freeIndex = s.freeIndex := rfl

/-! ### setIp -/

@[simp] theorem State.setIp_cfg (s : State) (v : Word) : (s.setIp v).cfg = s.cfg := rfl
@[simp] theorem State.setIp_pdBase (s : State) (v : Word) : (s.setIp v).pdBase = s.pdBase := rfl
@[simp] theorem State.setIp_a20Mask (s : State) (v : Word) : (s.setIp v).a20Mask = s.a20Mask := rfl
@[simp] theorem State.setIp_tcache (s : State) (v : Word) : (s.setIp v).tcache = s.tcache := rfl
@[simp] theorem State.setIp_walkCount (s : State) (v : Word) : (s.setIp v).walkCount = s.walkCount := rfl
@[simp] theorem State.setIp_pmem (s : State) (v : Word) : (s.setIp v).pmem = s.pmem := rfl
@[simp] theorem State.setIp_gpr (s : State) (v : Word) : (s.setIp v).gpr = s.gpr := rfl
@[simp] theorem State.setIp_segBase (s : State) (v : Word) : (s.setIp v).segBase = s.segBase := rfl
@[simp] theorem State.setIp_ip (s : State) (v : Word) : (s.setIp v).ip = v := rfl
@[simp] theorem State.setIp_flags (s : State) (v : Word) : (s.setIp v).flags = s.flags := rfl
@[simp] theorem State.setIp_addressSize32 (s : State) (v : Word) : (s.setIp v).addressSize32 = s.addressSize32 := rfl
@[simp] theorem State.setIp_operandSize32 (s : State) (v : Word) : (s.setIp v).operandSize32 = s.operandSize32 := rfl
@[simp] theorem State.setIp_defaultAddressSize32 (s : State) (v : Word) : (s.setIp v).defaultAddressSize32 = s.defaultAddressSize32 := rfl
@[simp] theorem State.setIp_defaultOperandSize32 (s : State) (v : Word) : (s.setIp v).defaultOperandSize32 = s.defaultOperandSize32 := rfl
@[simp] theorem State.setIp_win (s : State) (v : Word) : (s.setIp v).win = s.win := rfl
@[simp] theorem State.setIp_cursor (s : State) (v : Word) : (s.setIp v).cursor = s.cursor := rfl
@[simp] theorem State.setIp_segOverride (s : State) (v : Word) : (s.setIp v).segOverride = s.segOverride := rfl
@[simp] theorem State.setIp_requests (s : State) (v : Word) : (s.setIp v).requests = s.requests := rfl
@[simp] theorem State.setIp_args (s : State) (v : Word) : (s.setIp v).args = s.args := rfl
@[simp] theorem State.setIp_out (s : State) (v : Word) : (s.setIp v).out = s.out := rfl
@[simp] theorem State.setIp_videoCalls (s : State) (v : Word) : (s.setIp v).videoCalls = s.videoCalls := rfl
@[simp] theorem State.setIp_freeIndex (s : State) (v : Word) : (s.setIp v).freeIndex = s.freeIndex := rfl

/-! ### setDefaults -/

@[simp] theorem State.setDefaults_cfg (s : State) (a p : Bool) : (s.setDefaults a p).cfg = s.cfg := rfl
@[simp] theorem State.setDefaults_pdBase (s : State) (a p : Bool) : (s.setDefaults a p).pdBase = s.pdBase := rfl
@[simp] theorem State.setDefaults_a20Mask (s : State) (a p : Bool) : (s.setDefaults a p).a20Mask = s.a20Mask := rfl
@[simp] theorem State.setDefaults_tcache (s : State) (a p : Bool) : (s.setDefaults a p).tcache = s.tcache := rfl
@[simp] theorem State.setDefaults_walkCount (s : State) (a p : Bool) : (s.setDefaults a p).walkCount = s.walkCount := rfl
@[simp] theorem State.setDefaults_pmem (s : State) (a p : Bool) : (s.setDefaults a p).pmem = s.pmem := rfl
@[simp] theorem State.setDefaults_gpr (s : State) (a p : Bool) : (s.setDefaults a p).gpr = s.gpr := rfl
@[simp] theorem State.setDefaults_segBase (s : State) (a p : Bool) : (s.setDefaults a p).segBase = s.segBase := rfl
@[simp] theorem State.setDefaults_ip (s : State) (a p : Bool) : (s.setDefaults a p).ip = s.ip := rfl
@[simp] theorem State.setDefaults_flags (s : State) (a p : Bool) : (s.setDefaults a p).flags = s.flags := rfl
@[simp] theorem State.setDefaults_addressSize32 (s : State) (a p : Bool) : (s.setDefaults a p).addressSize32 = s.addressSize32 := rfl
@[simp] theorem State.setDefaults_operandSize32 (s : State) (a p : Bool) : (s.setDefaults a p).operandSize32 = s.operandSize32 := rfl
@[simp] theorem State.setDefaults_defaultAddressSize32 (s : State) (a p : Bool) : (s.setDefaults a p).defaultAddressSize32 = a := rfl
@[simp] theorem State.setDefaults_defaultOperandSize32 (s : State) (a p : Bool) : (s.setDefaults a p).defaultOperandSize32 = p := rfl
@[simp] theorem State.setDefaults_win (s : State) (a p : Bool) : (s.setDefaults a p).win = s.win := rfl
@[simp] theorem State.setDefaults_cursor (s : State) (a p : Bool) : (s.setDefaults a p).cursor = s.cursor := rfl
@[simp] theorem State.setDefaults_segOverride (s : State) (a p : Bool) : (s.setDefaults a p).segOverride = s.segOverride := rfl
@[simp] theorem State.setDefaults_requests (s : State) (a p : Bool) : (s.setDefaults a p).requests = s.requests := rfl
@[simp] theorem State.setDefaults_args (s : State) (a p : Bool) : (s.setDefaults a p).args = s.args := rfl
@[simp] theorem State.setDefaults_out (s : State) (a p : Bool) : (s.setDefaults a p).out = s.out := rfl
@[simp] theorem State.setDefaults_videoCalls (s : State) (a p : Bool) : (s.setDefaults a p).videoCalls = s.videoCalls := rfl
@[simp] theorem State.setDefaults_freeIndex (s : State) (a p : Bool) : (s.setDefaults a p).freeIndex = s.freeIndex := rfl

/-! ### setRequests -/

@[simp] theorem State.setRequests_cfg (s : State) (rs : List Request) : (s.setRequests rs).cfg = s.cfg := rfl
@[simp] theorem State.setRequests_pdBase (s : State) (rs : List Request) : (s.setRequests rs).pdBase = s.pdBase := rfl
@[simp] theorem State.setRequests_a20Mask (s : State) (rs : List Request) : (s.setRequests rs).a20Mask = s.a20Mask := rfl
@[simp] theorem State.setRequests_tcache (s : State) (rs : List Request) : (s.setRequests rs).tcache = s.tcache := rfl
@[simp] theorem State.setRequests_walkCount (s : State) (rs : List Request) : (s.setRequests rs).walkCount = s.walkCount := rfl
@[simp] theorem State.setRequests_pmem (s : State) (rs : List Request) : (s.setRequests rs).pmem = s.pmem := rfl
@[simp] theorem State.setRequests_gpr (s : State) (rs : List Request) : (s.setRequests rs).gpr = s.gpr := rfl
@[simp] theorem State.setRequests_segBase (s : State) (rs : List Request) : (s.setRequests rs).segBase = s.segBase := rfl
@[simp] theorem State.setRequests_ip (s : State) (rs : List Request) : (s.setRequests rs).ip = s.ip := rfl
@[simp] theorem State.setRequests_flags (s : State) (rs : List Request) : (s.setRequests rs).flags = s.flags := rfl
@[simp] theorem State.setRequests_addressSize32 (s : State) (rs : List Request) : (s.setRequests rs).addressSize32 = s.addressSize32 := rfl
@[simp] theorem State.setRequests_operandSize32 (s : State) (rs : List Request) : (s.setRequests rs).operandSize32 = s.operandSize32 := rfl
@[simp] theorem State.setRequests_defaultAddressSize32 (s : State) (rs : List Request) : (s.setRequests rs).defaultAddressSize32 = s.defaultAddressSize32 := rfl
@[simp] theorem State.setRequests_defaultOperandSize32 (s : State) (rs : List Request) : (s.setRequests rs).defaultOperandSize32 = s.defaultOperandSize32 := rfl
@[simp] theorem State.setRequests_win (s : State) (rs : List Request) : (s.setRequests rs).win = s.win := rfl
@[simp] theorem State.setRequests_cursor (s : State) (rs : List Request) : (s.setRequests rs).cursor = s.cursor := rfl
@[simp] theorem State.setRequests_segOverride (s : State) (rs : List Request) : (s.setRequests rs).segOverride = s.segOverride := rfl
@[simp] theorem State.setRequests_requests (s : State) (rs : List Request) : (s.setRequests rs).requests = rs := rfl
@[simp] theorem State.setRequests_args (s : State) (rs : List Request) : (s.setRequests rs).args = s.args := rfl
@[simp] theorem State.setRequests_out (s : State) (rs : List Request) : (s.setRequests rs).out = s.out := rfl
@[simp] theorem State.setRequests_videoCalls (s : State) (rs : List Request) : (s.setRequests rs).videoCalls = s.videoCalls := rfl
@[simp] theorem State.setRequests_freeIndex (s : State) (rs : List Request) : (s.setRequests rs).freeIndex = s.freeIndex := rfl

/-! ### setArgs -/

@[simp] theorem State.setArgs_cfg (s : State) (a : PortArguments) : (s.setArgs a).cfg = s.cfg := rfl
@[simp] theorem State.setArgs_pdBase (s : State) (a : PortArguments) : (s.setArgs a).pdBase = s.pdBase := rfl
@[simp] theorem State.setArgs_a20Mask (s : State) (a : PortArguments) : (s.setArgs a).a20Mask = s.a20Mask := rfl
@[simp] theorem State.setArgs_tcache (s : State) (a : PortArguments) : (s.setArgs a).tcache = s.tcache := rfl
@[simp] theorem State.setArgs_walkCount (s : State) (a : PortArguments) : (s.setArgs a).walkCount = s.walkCount := rfl
@[simp] theorem State.setArgs_pmem (s : State) (a : PortArguments) : (s.setArgs a).pmem = s.pmem := rfl
@[simp] theorem State.setArgs_gpr (s : State) (a : PortArguments) : (s.setArgs a).gpr = s.gpr := rfl
@[simp] theorem State.setArgs_segBase (s : State) (a : PortArguments) : (s.setArgs a).segBase = s.segBase := rfl
@[simp] theorem State.setArgs_ip (s : State) (a : PortArguments) : (s.setArgs a).ip = s.ip := rfl
@[simp] theorem State.setArgs_flags (s : State) (a : PortArguments) : (s.setArgs a).flags = s.flags := rfl
@[simp] theorem State.setArgs_addressSize32 (s : State) (a : PortArguments) : (s.setArgs a).addressSize32 = s.addressSize32 := rfl
@[simp] theorem State.setArgs_operandSize32 (s : State) (a : PortArguments) : (s.setArgs a).operandSize32 = s.operandSize32 := rfl
@[simp] theorem State.setArgs_defaultAddressSize32 (s : State) (a : PortArguments) : (s.setArgs a).defaultAddressSize32 = s.defaultAddressSize32 := rfl
@[simp] theorem State.setArgs_defaultOperandSize32 (s : State) (a : PortArguments) : (s.setArgs a).defaultOperandSize32 = s.defaultOperandSize32 := rfl
@[simp] theorem State.setArgs_win (s : State) (a : PortArguments) : (s.setArgs a).win = s.win := rfl
@[simp] theorem State.setArgs_cursor (s : State) (a : PortArguments) : (s.setArgs a).cursor = s.cursor := rfl
@[simp] theorem State.setArgs_segOverride (s : State) (a : PortArguments) : (s.setArgs a).segOverride = s.segOverride := rfl
@[simp] theorem State.setArgs_requests (s : State) (a : PortArguments) : (s.setArgs a).requests = s.requests := rfl
@[simp] theorem State.setArgs_args (s : State) (a : PortArguments) : (s.setArgs a).args = a := rfl
@[simp] theorem State.setArgs_out (s : State) (a : PortArguments) : (s.setArgs a).out = s.out := rfl
@[simp] theorem State.setArgs_videoCalls (s : State) (a : PortArguments) : (s.setArgs a).videoCalls = s.videoCalls := rfl
@[simp] theorem State.setArgs_freeIndex (s : State) (a : PortArguments) : (s.setArgs a).freeIndex = s.freeIndex := rfl

/-! ### The shared maintenance operations, by the updates they are -/

@[simp] theorem flushCache_eq (s : State) : flushCache s = s.setTcache [] := rfl
@[simp] theorem setA20_eq (b : Bool) (s : State) : setA20 b s = s.setA20Mask (a20MaskOf b) := rfl

end Sys2Proof.Machine
end

