-- ==== Sys2Proof/Laws/Memory.lean ====
section
/-! SUPPORT. The laws of the two sparse maps and of byte order: read after write, every operation keeps the canonical form,
lookup after insert. -/

namespace Sys2Proof.Machine

/-! ### Byte order -/

@[simp] theorem leBytes_length (n v : Nat) : (leBytes n v).length = n := by
  induction n generalizing v with
  | zero => rfl
  | succ n ih => simp [leBytes, ih]

/-- The bytes of a number stand for its value modulo 256^n. -/
theorem leValue_leBytes (n v : Nat) : leValue (leBytes n v) = v % 256 ^ n := by
  induction n generalizing v with
  | zero => simp [leBytes, leValue, Nat.mod_one]
  | succ n ih =>
    simp only [leBytes, leValue, ih, BitVec.toNat_ofNat]
    rw [show (2 : Nat) ^ 8 = 256 from rfl, Nat.pow_succ, Nat.mul_comm (256 ^ n) 256, Nat.mod_mul]

/-- A little-endian number is below 256^n. -/
theorem leValue_lt (bs : List Byte) : leValue bs < 256 ^ bs.length := by
  induction bs with
  | nil => simp [leValue]
  | cons b bs ih =>
    have := b.isLt
    simp only [leValue, List.length_cons, Nat.pow_succ]
    omega

theorem leValue_append (xs ys : List Byte) : leValue (xs ++ ys) = leValue xs + 256 ^ xs.length * leValue ys := by
  induction xs with
  | nil => simp [leValue]
  | cons x xs ih =>
    simp only [List.cons_append, leValue, ih, List.length_cons, Nat.pow_succ, Nat.mul_add]
    ring

/-! ### The backing store -/

@[simp] theorem Memory.readBytes_length (m : List Host.Cell) (a n : Nat) : (Memory.readBytes m a n).length = n := by
  induction n generalizing a with
  | zero => rfl
  | succ n ih => simp [Memory.readBytes, ih]

theorem Memory.read_of_lt {size lo : Nat} {m : List Host.Cell} {a : Nat} (h : Memory.wfFrom size lo m = true) (ha : a < lo) :
    Memory.read m a = unlistedByte := by
  induction m generalizing lo with
  | nil => rfl
  | cons e m ih =>
    obtain ⟨k, v⟩ := e
    simp only [Memory.wfFrom, Bool.and_eq_true, decide_eq_true_eq] at h
    have hk : k ≠ a := by omega
    simp only [Memory.read, hk, if_false]
    exact ih h.2 (by omega)

/-- A write is read back, in a canonical store. -/
theorem Memory.read_write_same {size lo : Nat} {m : List Host.Cell} (a : Nat) (v : Byte) (h : Memory.wfFrom size lo m = true) :
    Memory.read (Memory.write m a v) a = v := by
  induction m generalizing lo with
  | nil => by_cases hv : v = unlistedByte <;> simp [Memory.write, Memory.read, hv]
  | cons e m ih =>
    obtain ⟨k, w⟩ := e
    have h' := h
    simp only [Memory.wfFrom, Bool.and_eq_true, decide_eq_true_eq] at h
    unfold Memory.write
    split_ifs with h1 h2 h3 h4
    · subst h2
      exact Memory.read_of_lt (lo := k) (size := size) (by simp [Memory.wfFrom, h.1.1.2, h.1.2, h.2]) h1
    · simp [Memory.read]
    · subst h3 h4
      exact Memory.read_of_lt h.2 (by omega)
    · simp [Memory.read]
    · have : k ≠ a := fun hk => h3 hk.symm
      simp only [Memory.read, this, if_false]
      exact ih h.2

/-- A write leaves every other byte alone, in any store. -/
theorem Memory.read_write_other (m : List Host.Cell) (a b : Nat) (v : Byte) (hab : b ≠ a) :
    Memory.read (Memory.write m a v) b = Memory.read m b := by
  induction m with
  | nil =>
    unfold Memory.write
    split_ifs <;> simp [Memory.read, hab.symm]
  | cons e m ih =>
    obtain ⟨k, w⟩ := e
    unfold Memory.write
    split_ifs with h1 h2 h3 h4
    · rfl
    · simp [Memory.read, hab.symm]
    · subst h3; simp [Memory.read, hab.symm]
    · subst h3; simp [Memory.read, hab.symm]
    · simp [Memory.read, ih]

/-- A write below PHYS_SIZE keeps the canonical form. -/
theorem Memory.write_wfFrom {size lo a : Nat} {m : List Host.Cell} (v : Byte) (h : Memory.wfFrom size lo m = true)
    (hlo : lo ≤ a) (ha : a < size) : Memory.wfFrom size lo (Memory.write m a v) = true := by
  induction m generalizing lo with
  | nil =>
    unfold Memory.write
    split_ifs with hv
    · rfl
    · simp [Memory.wfFrom, hlo, ha, hv]
  | cons e m ih =>
    obtain ⟨k, w⟩ := e
    simp only [Memory.wfFrom, Bool.and_eq_true, decide_eq_true_eq] at h
    obtain ⟨⟨⟨h1, h2⟩, h3⟩, h4⟩ := h
    have weaken : Memory.wfFrom size lo m = true := by
      clear ih
      cases m with
      | nil => rfl
      | cons e m =>
        simp only [Memory.wfFrom, Bool.and_eq_true, decide_eq_true_eq] at h4 ⊢
        exact ⟨⟨⟨by omega, h4.1.1.2⟩, h4.1.2⟩, h4.2⟩
    unfold Memory.write
    split_ifs with g1 g2 g3 g4
    · simp [Memory.wfFrom, h1, h2, h3, h4]
    · simp [Memory.wfFrom, hlo, ha, g2, h2, h3, h4]; omega
    · exact weaken
    · subst g3; simp [Memory.wfFrom, hlo, ha, g4, h4]
    · simp only [Memory.wfFrom, Bool.and_eq_true, decide_eq_true_eq]
      exact ⟨⟨⟨h1, h2⟩, h3⟩, ih h4 (by omega)⟩

/-- A write below PHYS_SIZE keeps the canonical form. -/
theorem Memory.write_wf {size a : Nat} {m : List Host.Cell} (v : Byte) (h : Memory.wf size m = true) (ha : a < size) :
    Memory.wf size (Memory.write m a v) = true := Memory.write_wfFrom v h (Nat.zero_le a) ha

/-- A write of several bytes below PHYS_SIZE keeps the canonical form. -/
theorem Memory.writeBytes_wf {size : Nat} (bs : List Byte) {m : List Host.Cell} {a : Nat} (h : Memory.wf size m = true)
    (ha : a + bs.length ≤ size) : Memory.wf size (Memory.writeBytes m a bs) = true := by
  induction bs generalizing m a with
  | nil => exact h
  | cons b bs ih =>
    simp only [List.length_cons] at ha
    exact ih (Memory.write_wf b h (by omega)) (by omega)

/-- A write of several bytes leaves every byte outside them alone. -/
theorem Memory.read_writeBytes_other (bs : List Byte) (m : List Host.Cell) (a b : Nat) (hb : b < a ∨ a + bs.length ≤ b) :
    Memory.read (Memory.writeBytes m a bs) b = Memory.read m b := by
  induction bs generalizing m a with
  | nil => rfl
  | cons x bs ih =>
    simp only [List.length_cons] at hb
    unfold Memory.writeBytes
    rw [ih _ (a + 1) (by omega), Memory.read_write_other _ _ _ _ (by omega)]

/-- Bytes written are read back, in a canonical store. -/
theorem Memory.readBytes_writeBytes {size : Nat} (bs : List Byte) {m : List Host.Cell} {a : Nat}
    (h : Memory.wf size m = true) (ha : a + bs.length ≤ size) :
    Memory.readBytes (Memory.writeBytes m a bs) a bs.length = bs := by
  induction bs generalizing m a with
  | nil => rfl
  | cons b bs ih =>
    simp only [List.length_cons] at ha
    have hw := Memory.write_wf b h (a := a) (by omega)
    simp only [Memory.writeBytes, List.length_cons, Memory.readBytes, ih hw (show a + 1 + bs.length ≤ size by omega)]
    rw [Memory.read_writeBytes_other _ _ _ _ (by omega), Memory.read_write_same (size := size) (lo := 0) a b h]

/-! ### The translation cache -/

/-- An inserted entry is found. -/
@[simp] theorem Tcache.find?_insert_same (t : List (Nat × Word)) (key : Nat) (base : Word) :
    Tcache.find? (Tcache.insert t key base) key = some base := by
  induction t with
  | nil => simp [Tcache.insert, Tcache.find?]
  | cons e t ih =>
    obtain ⟨k, b⟩ := e
    unfold Tcache.insert
    split_ifs with h1 h2
    · simp [Tcache.find?]
    · simp [Tcache.find?]
    · have : k ≠ key := fun h => h2 h.symm
      simp [Tcache.find?, this, ih]

/-- An insert leaves every other page number's entry alone. -/
theorem Tcache.find?_insert_other (t : List (Nat × Word)) {key other : Nat} (base : Word) (h : other ≠ key) :
    Tcache.find? (Tcache.insert t key base) other = Tcache.find? t other := by
  induction t with
  | nil => simp [Tcache.insert, Tcache.find?, h.symm]
  | cons e t ih =>
    obtain ⟨k, b⟩ := e
    unfold Tcache.insert
    split_ifs with h1 h2
    · simp [Tcache.find?, h.symm]
    · subst h2; simp [Tcache.find?, h.symm]
    · simp [Tcache.find?, ih]

/-- An insert of a legal entry keeps the cache's form. -/
theorem Tcache.insert_wfFrom {lo key : Nat} {t : List (Nat × Word)} {base : Word} (h : Tcache.wfFrom lo t = true)
    (hlo : lo ≤ key) (hk : key < 2 ^ 20) (hb : base &&& 0xFFF#32 = 0#32) :
    Tcache.wfFrom lo (Tcache.insert t key base) = true := by
  induction t generalizing lo with
  | nil => simpa [Tcache.insert, Tcache.wfFrom, hlo, hb] using hk
  | cons e t ih =>
    obtain ⟨k, b⟩ := e
    simp only [Tcache.wfFrom, Bool.and_eq_true, decide_eq_true_eq] at h
    obtain ⟨⟨⟨h1, h2⟩, h3⟩, h4⟩ := h
    unfold Tcache.insert
    split_ifs with g1 g2
    · simp [Tcache.wfFrom, hlo, hb, h3, h4]; omega
    · subst g2; simpa [Tcache.wfFrom, hlo, hb, h4] using hk
    · simp only [Tcache.wfFrom, Bool.and_eq_true, decide_eq_true_eq]
      exact ⟨⟨⟨h1, h2⟩, h3⟩, ih h4 (by omega)⟩

/-- A base found in a cache of legal form has bits 11:0 zero (R24). -/
theorem Tcache.find?_aligned {lo : Nat} {t : List (Nat × Word)} {key : Nat} {base : Word} (h : Tcache.wfFrom lo t = true)
    (hf : Tcache.find? t key = some base) : base &&& 0xFFF#32 = 0#32 := by
  induction t generalizing lo with
  | nil => simp [Tcache.find?] at hf
  | cons e t ih =>
    obtain ⟨k, b⟩ := e
    simp only [Tcache.wfFrom, Bool.and_eq_true, decide_eq_true_eq] at h
    unfold Tcache.find? at hf
    split_ifs at hf with hk
    · cases hf; exact h.1.2
    · exact ih h.2 hf

end Sys2Proof.Machine
end

