-- ==== Sys2Proof/Laws/Decode.lean ====
section
/-! SUPPORT. Byte order in the instruction stream: the decoder's and the encoder's two- and four-byte numbers against `leValue`
(R62, R98). -/

namespace Sys2Proof.Machine

theorem le16_toNat (a b : Byte) : (le16 a b).toNat = a.toNat + 256 * b.toNat := by
  have := a.isLt
  simp only [le16, BitVec.toNat_append]
  rw [← Nat.shiftLeft_add_eq_or_of_lt (by omega)]
  omega

theorem le32_toNat (a b c d : Byte) :
    (le32 a b c d).toNat = a.toNat + 256 * (b.toNat + 256 * (c.toNat + 256 * d.toNat)) := by
  have := a.isLt
  have := b.isLt
  have := c.isLt
  simp only [le32, BitVec.toNat_append]
  rw [← Nat.shiftLeft_add_eq_or_of_lt (by omega), ← Nat.shiftLeft_add_eq_or_of_lt (by omega),
    ← Nat.shiftLeft_add_eq_or_of_lt (by omega)]
  omega

theorem ofNat_leValue_one (a : Byte) : BitVec.ofNat 8 (leValue [a]) = a := by simp [leValue]

theorem ofNat_leValue_two (a b : Byte) : BitVec.ofNat 16 (leValue [a, b]) = le16 a b := by
  have := a.isLt
  have := b.isLt
  apply BitVec.eq_of_toNat_eq
  simp only [leValue, BitVec.toNat_ofNat, le16_toNat]
  omega

theorem ofNat_leValue_four (a b c d : Byte) : BitVec.ofNat 32 (leValue [a, b, c, d]) = le32 a b c d := by
  have := a.isLt
  have := b.isLt
  have := c.isLt
  have := d.isLt
  apply BitVec.eq_of_toNat_eq
  simp only [leValue, BitVec.toNat_ofNat, le32_toNat]
  omega

theorem toNat_byte (i n : Nat) (d : BitVec n) : (d.extractLsb' i 8).toNat = d.toNat / 2 ^ i % 256 := by
  simp [BitVec.extractLsb'_toNat, Nat.shiftRight_eq_div_pow]

/-- Writing out a number just read gives its bytes. -/
@[simp] theorem bytes16_le16 (a b : Byte) : bytes16 (le16 a b) = [a, b] := by
  have := a.isLt
  have := b.isLt
  simp only [bytes16, List.cons.injEq, and_true]
  refine ⟨?_, ?_⟩ <;> apply BitVec.eq_of_toNat_eq <;> rw [toNat_byte, le16_toNat] <;> omega

@[simp] theorem bytes32_le32 (a b c d : Byte) : bytes32 (le32 a b c d) = [a, b, c, d] := by
  have := a.isLt
  have := b.isLt
  have := c.isLt
  have := d.isLt
  simp only [bytes32, List.cons.injEq, and_true]
  refine ⟨?_, ?_, ?_, ?_⟩ <;> apply BitVec.eq_of_toNat_eq <;> rw [toNat_byte, le32_toNat] <;> omega

/-- Reading a number just written out gives it back. -/
theorem le16_bytes16 (d : BitVec 16) : le16 (d.extractLsb' 0 8) (d.extractLsb' 8 8) = d := by
  have := d.isLt
  apply BitVec.eq_of_toNat_eq
  simp only [le16_toNat, toNat_byte]
  omega

theorem le32_bytes32 (d : BitVec 32) :
    le32 (d.extractLsb' 0 8) (d.extractLsb' 8 8) (d.extractLsb' 16 8) (d.extractLsb' 24 8) = d := by
  have := d.isLt
  apply BitVec.eq_of_toNat_eq
  simp only [le32_toNat, toNat_byte]
  omega

/-- The fields of a ModR/M byte put together are the fields taken apart (R91). -/
theorem modrmByte_fields (mod : BitVec 2) (reg rm : RegIdx) :
    modOf (modrmByte mod reg rm) = mod ∧ regOf (modrmByte mod reg rm) = reg ∧ rmOf (modrmByte mod reg rm) = rm := by
  have all : ∀ (mod : BitVec 2) (reg rm : RegIdx), modOf (modrmByte mod reg rm) = mod ∧ regOf (modrmByte mod reg rm) = reg ∧
      rmOf (modrmByte mod reg rm) = rm := by decide +kernel
  exact all mod reg rm

/-- The fields of a SIB byte put together are the fields taken apart (R93). -/
theorem sibByte_fields (scale : BitVec 2) (index base : RegIdx) :
    scaleOf (sibByte scale index base) = scale ∧ indexOf (sibByte scale index base) = index ∧
      baseOf (sibByte scale index base) = base := by
  have all : ∀ (scale : BitVec 2) (index base : RegIdx), scaleOf (sibByte scale index base) = scale ∧
      indexOf (sibByte scale index base) = index ∧ baseOf (sibByte scale index base) = base := by decide +kernel
  exact all scale index base

end Sys2Proof.Machine
end

