-- ==== Sys2Proof/Laws/Ops.lean ====
section
/-! SUPPORT. What each shared operation of Machine/Ops.lean and Machine/Operands.lean can do, said once. -/

namespace Sys2Proof.Machine

/-! ### Sequencing -/

@[simp] theorem Res.bind_ok {α β : Type} (a : α) (s : State) (f : α → State → Res β) : (Res.ok a s).bind f = f a s := rfl

@[simp] theorem Res.bind_pageFault {α β : Type} (x : Word) (k : AccessKind) (s : State) (f : α → State → Res β) :
    (Res.pageFault x k s : Res α).bind f = .pageFault x k s := rfl

@[simp] theorem Res.bind_fault {α β : Type} (x : Fault) (f : α → State → Res β) : (Res.fault x : Res α).bind f = .fault x := rfl

@[simp] theorem Res.bind_refused {α β : Type} (x : Refusal) (f : α → State → Res β) :
    (Res.refused x : Res α).bind f = .refused x := rfl

@[simp] theorem Res.toOutcome_ok {α : Type} (a : α) (s : State) (k : α → State → State) :
    (Res.ok a s).toOutcome k = .next (k a s) := rfl

@[simp] theorem Res.toOutcome_pageFault {α : Type} (x : Word) (kind : AccessKind) (s : State) (k : α → State → State) :
    (Res.pageFault x kind s : Res α).toOutcome k = .next (signalPageFault x kind s) := rfl

@[simp] theorem Res.toOutcome_fault {α : Type} (x : Fault) (k : α → State → State) :
    (Res.fault x : Res α).toOutcome k = .fault x := rfl

@[simp] theorem Res.toOutcome_refused {α : Type} (x : Refusal) (k : α → State → State) :
    (Res.refused x : Res α).toOutcome k = .refused x := rfl

theorem Res.bind_assoc {α β γ : Type} (r : Res α) (f : α → State → Res β) (g : β → State → Res γ) :
    (r.bind f).bind g = r.bind fun a s => (f a s).bind g := by cases r <;> rfl

/-- A sequence completes only if both parts do. -/
theorem Res.bind_eq_ok {α β : Type} {r : Res α} {f : α → State → Res β} {b : β} {t : State} (h : r.bind f = .ok b t) :
    ∃ a u, r = .ok a u ∧ f a u = .ok b t := by
  cases r <;> simp [Res.bind] at h ⊢
  exact h

/-- A sequence raises PageFault in its first or in its second part. -/
theorem Res.bind_eq_pageFault {α β : Type} {r : Res α} {f : α → State → Res β} {x : Word} {k : AccessKind} {t : State}
    (h : r.bind f = .pageFault x k t) : r = .pageFault x k t ∨ ∃ a u, r = .ok a u ∧ f a u = .pageFault x k t := by
  cases r <;> simp [Res.bind] at h ⊢
  · exact h
  · exact h

/-- A next state is a completed operation or a signalled PageFault. -/
theorem Res.toOutcome_eq_next {α : Type} {r : Res α} {k : α → State → State} {t : State} (h : r.toOutcome k = .next t) :
    (∃ a u, r = .ok a u ∧ t = k a u) ∨ ∃ x kind u, r = .pageFault x kind u ∧ t = signalPageFault x kind u := by
  cases r <;> simp [Res.toOutcome] at h ⊢ <;> exact h.symm

/-! ### Consuming bytes, completing a form -/

theorem skipBytes_eq {n : Nat} {s : State} (h : s.cursor + n ≤ windowLen) :
    skipBytes n s = .ok () (s.setCursor (s.cursor + n)) := by simp [skipBytes, h]

theorem skipBytes_refused {n : Nat} {s : State} (h : ¬ s.cursor + n ≤ windowLen) :
    skipBytes n s = .refused .windowOverrun := by simp only [skipBytes, h, if_false]

theorem skipBytes_ok {n : Nat} {s t : State} {u : Unit} (h : skipBytes n s = .ok u t) :
    s.cursor + n ≤ windowLen ∧ t = s.setCursor (s.cursor + n) := by
  unfold skipBytes at h
  split_ifs at h with hc
  · injection h with _ h; exact ⟨hc, h.symm⟩

/-- A fetched byte is the window's byte at the cursor, and the cursor is one further. -/
theorem fetch8_ok {b : Byte} {s t : State} (h : fetch8 s = .ok b t) :
    s.win[s.cursor]? = some b ∧ t = s.setCursor (s.cursor + 1) := by
  unfold fetch8 at h
  split at h
  · next c hc => injection h with h1 h2; exact ⟨h1 ▸ hc, h2.symm⟩
  · cases h

theorem fetch8_not_pageFault {s t : State} {x : Word} {k : AccessKind} : fetch8 s ≠ .pageFault x k t := by
  unfold fetch8; split <;> simp

theorem completeForm_eq {len : Nat} {loc : Location} {reg : RegIdx} {s : State} (h : s.cursor + len ≤ windowLen) :
    completeForm len loc reg s = .next { s with cursor := s.cursor + len, out := .location loc reg } := by
  simp only [completeForm, skipBytes_eq h, Res.toOutcome_ok]; rfl

theorem completeForm_refused {len : Nat} {loc : Location} {reg : RegIdx} {s : State} (h : ¬ s.cursor + len ≤ windowLen) :
    completeForm len loc reg s = .refused .windowOverrun := by
  simp only [completeForm, skipBytes_refused h, Res.toOutcome_refused]

/-! ### What an access may change -/

/-- `t` is `s` but for the cache, the walk count, and the video device's side: all a read may change. -/
def ReadFrame (s t : State) : Prop :=
  ∃ tc wc vc fi, t = { s with tcache := tc, walkCount := wc, videoCalls := vc, freeIndex := fi }

theorem ReadFrame.refl (s : State) : ReadFrame s s := ⟨_, _, _, _, rfl⟩

theorem ReadFrame.trans {s t u : State} (h1 : ReadFrame s t) (h2 : ReadFrame t u) : ReadFrame s u := by
  obtain ⟨_, _, _, _, rfl⟩ := h1
  obtain ⟨tc, wc, vc, fi, rfl⟩ := h2
  exact ⟨tc, wc, vc, fi, rfl⟩

/-- `t` is `s` but for what a read may change and the backing store: all a write may change. -/
def WriteFrame (s t : State) : Prop :=
  ∃ tc wc vc fi m, t = { s with tcache := tc, walkCount := wc, videoCalls := vc, freeIndex := fi, pmem := m }

theorem WriteFrame.refl (s : State) : WriteFrame s s := ⟨_, _, _, _, _, rfl⟩

theorem WriteFrame.trans {s t u : State} (h1 : WriteFrame s t) (h2 : WriteFrame t u) : WriteFrame s u := by
  obtain ⟨_, _, _, _, _, rfl⟩ := h1
  obtain ⟨tc, wc, vc, fi, m, rfl⟩ := h2
  exact ⟨tc, wc, vc, fi, m, rfl⟩

theorem ReadFrame.toWrite {s t : State} (h : ReadFrame s t) : WriteFrame s t := by
  obtain ⟨tc, wc, vc, fi, rfl⟩ := h
  exact ⟨tc, wc, vc, fi, _, rfl⟩

/-! ### The backing store and the window -/

theorem physRead_ok {p : Word} {n : Nat} {s t : State} {bs : List Byte} (h : physRead p n s = .ok bs t) :
    p.toNat + n ≤ s.cfg.physSize ∧ bs = Memory.readBytes s.pmem p.toNat n ∧ t = s := by
  unfold physRead at h
  split_ifs at h with hp
  · injection h with h1 h2; exact ⟨hp, h1.symm, h2.symm⟩

theorem physRead_not_pageFault {p : Word} {n : Nat} {s t : State} {x : Word} {k : AccessKind} :
    physRead p n s ≠ .pageFault x k t := by unfold physRead; split_ifs <;> simp

theorem readEntry_ok {a : Word} {s t : State} {e : Word} (h : readEntry a s = .ok e t) :
    a.toNat + 4 ≤ s.cfg.physSize ∧ e = BitVec.ofNat 32 (leValue (Memory.readBytes s.pmem a.toNat 4)) ∧ t = s := by
  obtain ⟨bs, u, h1, h2⟩ := Res.bind_eq_ok h
  obtain ⟨hp, rfl, rfl⟩ := physRead_ok h1
  injection h2 with h2 h3
  exact ⟨hp, h2.symm, h3.symm⟩

theorem readEntry_not_pageFault {a : Word} {s t : State} {x : Word} {k : AccessKind} :
    readEntry a s ≠ .pageFault x k t := by
  intro h
  rcases Res.bind_eq_pageFault h with h | ⟨_, _, _, h⟩
  · exact physRead_not_pageFault h
  · cases h

theorem freeBytes_length (d n : Nat) : (freeBytes d n).length = n := by simp [freeBytes]

theorem loadBytes_ok {p : Word} {n : Nat} {s t : State} {bs : List Byte} (h : loadBytes p n s = .ok bs t) :
    bs.length = n ∧ ReadFrame s t ∧ t.tcache = s.tcache := by
  unfold loadBytes at h
  split_ifs at h with hv
  · simp only [videoRead] at h
    injection h with h1 h2
    subst h1 h2
    exact ⟨freeBytes_length _ _, ⟨_, _, _, _, rfl⟩, rfl⟩
  · obtain ⟨_, rfl, rfl⟩ := physRead_ok h
    exact ⟨Memory.readBytes_length _ _ _, .refl _, rfl⟩

theorem loadBytes_not_pageFault {p : Word} {n : Nat} {s t : State} {x : Word} {k : AccessKind} :
    loadBytes p n s ≠ .pageFault x k t := by
  unfold loadBytes
  split_ifs
  · simp [videoRead]
  · exact physRead_not_pageFault

/-- A store at a translated address: a call of the video handler, or bytes of the backing store within PHYS_SIZE. -/
theorem storeBytes_ok {p : Word} {bs : List Byte} {s t : State} {u : Unit} (h : storeBytes p bs s = .ok u t) :
    (inVram s.cfg p = true ∧ t = s.logVideo (.write p bs)) ∨
    (inVram s.cfg p = false ∧ p.toNat + bs.length ≤ s.cfg.physSize ∧
      t = s.setMem (Memory.writeBytes s.pmem p.toNat bs)) := by
  unfold storeBytes at h
  split_ifs at h with hv
  · injection h with _ h; exact .inl ⟨hv, h.symm⟩
  · unfold physWrite at h
    split_ifs at h with hp
    injection h with _ h
    exact .inr ⟨by simpa using hv, hp, h.symm⟩

theorem storeBytes_not_pageFault {p : Word} {bs : List Byte} {s t : State} {x : Word} {k : AccessKind} :
    storeBytes p bs s ≠ .pageFault x k t := by
  unfold storeBytes videoWrite physWrite; split_ifs <;> simp

theorem storeBytes_frame {p : Word} {bs : List Byte} {s t : State} {u : Unit} (h : storeBytes p bs s = .ok u t) :
    WriteFrame s t := by
  rcases storeBytes_ok h with ⟨_, rfl⟩ | ⟨_, _, rfl⟩
  · exact ⟨_, _, _, _, _, rfl⟩
  · exact ⟨_, _, _, _, _, rfl⟩

/-! ### Translate -/

/-- A walk that completes: both entries present, the page base cached. -/
theorem walk_ok {l p : Word} {kind : AccessKind} {s t : State} (h : walk l kind s = .ok p t) :
    ∃ pde pte, readEntry (s.pdBase + dirIndex l * 4) s.countWalk = .ok pde s.countWalk ∧ entryPresent pde = true ∧
      readEntry (entryBase pde + tableIndex l * 4) s.countWalk = .ok pte s.countWalk ∧ entryPresent pte = true ∧
      p = entryBase pte ||| pageOffset l ∧
      t = s.countWalk.setTcache (Tcache.insert s.tcache (pageNumber l) (entryBase pte)) := by
  obtain ⟨pde, u, h1, h2⟩ := Res.bind_eq_ok h
  obtain ⟨_, _, rfl⟩ := readEntry_ok h1
  split_ifs at h2 with hd
  obtain ⟨pte, v, h3, h4⟩ := Res.bind_eq_ok h2
  obtain ⟨_, _, rfl⟩ := readEntry_ok h3
  split_ifs at h4 with ht
  injection h4 with h4 h5
  exact ⟨pde, pte, h1, hd, h3, ht, h4.symm, h5.symm⟩

/-- A walk that raises PageFault: the payload is the translated address and kind, the walk is counted, nothing else changed. -/
theorem walk_pageFault {l x : Word} {kind k : AccessKind} {s t : State} (h : walk l kind s = .pageFault x k t) :
    x = l ∧ k = kind ∧ t = s.countWalk := by
  rcases Res.bind_eq_pageFault h with h | ⟨pde, u, h1, h2⟩
  · exact absurd h readEntry_not_pageFault
  · obtain ⟨_, _, rfl⟩ := readEntry_ok h1
    split_ifs at h2 with hd
    · rcases Res.bind_eq_pageFault h2 with h | ⟨pte, v, h3, h4⟩
      · exact absurd h readEntry_not_pageFault
      · obtain ⟨_, _, rfl⟩ := readEntry_ok h3
        split_ifs at h4
        injection h4 with a b c
        exact ⟨a.symm, b.symm, c.symm⟩
    · injection h2 with a b c
      exact ⟨a.symm, b.symm, c.symm⟩

/-- The three ways `Translate` completes: unpaged, cache hit, walk. -/
theorem translate_ok {l p : Word} {kind : AccessKind} {s t : State} (h : translate l kind s = .ok p t) :
    (s.pdBase = 0 ∧ p = l &&& s.a20Mask ∧ t = s) ∨
    (s.pdBase ≠ 0 ∧ ∃ base, Tcache.find? s.tcache (pageNumber l) = some base ∧ p = base ||| pageOffset l ∧ t = s) ∨
    (s.pdBase ≠ 0 ∧ Tcache.find? s.tcache (pageNumber l) = none ∧ walk l kind s = .ok p t) := by
  unfold translate at h
  split_ifs at h with hp
  · injection h with h1 h2; exact .inl ⟨hp, h1.symm, h2.symm⟩
  · split at h
    · next base hb => injection h with h1 h2; exact .inr (.inl ⟨hp, base, hb, h1.symm, h2.symm⟩)
    · next hb => exact .inr (.inr ⟨hp, hb, h⟩)

/-- `Translate` raises PageFault only from a walk: paging on, no cached entry; the walk is counted, nothing else changed. -/
theorem translate_pageFault {l x : Word} {kind k : AccessKind} {s t : State} (h : translate l kind s = .pageFault x k t) :
    x = l ∧ k = kind ∧ t = s.countWalk ∧ s.pdBase ≠ 0 ∧ Tcache.find? s.tcache (pageNumber l) = none := by
  unfold translate at h
  split_ifs at h with hp
  split at h
  · cases h
  · next hb => obtain ⟨a, b, c⟩ := walk_pageFault h; exact ⟨a, b, c, hp, hb⟩

/-- `Translate` changes the cache and the walk count, nothing else. -/
theorem translate_frame {l p : Word} {kind : AccessKind} {s t : State} (h : translate l kind s = .ok p t) :
    ∃ tc wc, t = { s with tcache := tc, walkCount := wc } := by
  rcases translate_ok h with ⟨_, _, rfl⟩ | ⟨_, _, _, _, rfl⟩ | ⟨_, _, hw⟩
  · exact ⟨_, _, rfl⟩
  · exact ⟨_, _, rfl⟩
  · obtain ⟨_, _, _, _, _, _, _, rfl⟩ := walk_ok hw; exact ⟨_, _, rfl⟩

theorem translate_readFrame {l p : Word} {kind : AccessKind} {s t : State} (h : translate l kind s = .ok p t) :
    ReadFrame s t := by
  obtain ⟨_, _, rfl⟩ := translate_frame h
  exact ⟨_, _, _, _, rfl⟩

/-! ### Memory access -/

theorem readByteByByte_ok {kind : AccessKind} {n : Nat} {l : Word} {s t : State} {bs : List Byte}
    (h : readByteByByte kind n l s = .ok bs t) : bs.length = n ∧ ReadFrame s t := by
  induction n generalizing l s bs with
  | zero => injection h with h1 h2; subst h1 h2; exact ⟨rfl, .refl _⟩
  | succ n ih =>
    obtain ⟨p, u, h1, h⟩ := Res.bind_eq_ok h
    obtain ⟨b, v, h2, h⟩ := Res.bind_eq_ok h
    obtain ⟨bs', w, h3, h⟩ := Res.bind_eq_ok h
    injection h with h4 h5
    subst h4 h5
    obtain ⟨l2, f2, _⟩ := loadBytes_ok h2
    obtain ⟨l3, f3⟩ := ih h3
    exact ⟨by simp [l2, l3]; omega, ((translate_readFrame h1).trans f2).trans f3⟩

/-- A completed `MemRead` has n bytes and changes only what a read may. -/
theorem memRead_ok {l : Word} {n : Nat} {kind : AccessKind} {s t : State} {bs : List Byte}
    (h : memRead l n kind s = .ok bs t) : bs.length = n ∧ ReadFrame s t := by
  unfold memRead at h
  split_ifs at h with hs
  · exact readByteByByte_ok h
  · obtain ⟨p, u, h1, h⟩ := Res.bind_eq_ok h
    obtain ⟨l2, f2, _⟩ := loadBytes_ok h
    exact ⟨l2, (translate_readFrame h1).trans f2⟩

theorem readByteByByte_pageFault {kind k : AccessKind} {n : Nat} {l x : Word} {s t : State}
    (h : readByteByByte kind n l s = .pageFault x k t) : k = kind ∧ ReadFrame s t := by
  induction n generalizing l s with
  | zero => cases h
  | succ n ih =>
    rcases Res.bind_eq_pageFault h with h | ⟨p, u, h1, h⟩
    · obtain ⟨_, hk, rfl, _⟩ := translate_pageFault h; exact ⟨hk, ⟨_, _, _, _, rfl⟩⟩
    · rcases Res.bind_eq_pageFault h with h | ⟨b, v, h2, h⟩
      · exact absurd h loadBytes_not_pageFault
      · rcases Res.bind_eq_pageFault h with h | ⟨_, _, _, h⟩
        · obtain ⟨hk, f⟩ := ih h
          exact ⟨hk, ((translate_readFrame h1).trans (loadBytes_ok h2).2.1).trans f⟩
        · cases h

theorem memRead_pageFault {l x : Word} {n : Nat} {kind k : AccessKind} {s t : State}
    (h : memRead l n kind s = .pageFault x k t) : k = kind ∧ ReadFrame s t := by
  unfold memRead at h
  split_ifs at h with hs
  · exact readByteByByte_pageFault h
  · rcases Res.bind_eq_pageFault h with h | ⟨p, u, h1, h⟩
    · obtain ⟨_, hk, rfl, _⟩ := translate_pageFault h; exact ⟨hk, ⟨_, _, _, _, rfl⟩⟩
    · exact absurd h loadBytes_not_pageFault

theorem writeByteByByte_frame {bs : List Byte} {l : Word} {s : State} :
    (∀ {u t}, writeByteByByte bs l s = .ok u t → WriteFrame s t) ∧
    (∀ {x k t}, writeByteByByte bs l s = .pageFault x k t → k = .write ∧ WriteFrame s t) := by
  induction bs generalizing l s with
  | nil =>
    refine ⟨fun h => ?_, fun h => by cases h⟩
    injection h with _ h
    exact h ▸ .refl _
  | cons b bs ih =>
    refine ⟨fun h => ?_, fun h => ?_⟩
    · obtain ⟨p, u, h1, h⟩ := Res.bind_eq_ok h
      obtain ⟨_, v, h2, h⟩ := Res.bind_eq_ok h
      exact ((translate_readFrame h1).toWrite.trans (storeBytes_frame h2)).trans (ih.1 h)
    · rcases Res.bind_eq_pageFault h with h | ⟨p, u, h1, h⟩
      · obtain ⟨_, hk, rfl, _⟩ := translate_pageFault h; exact ⟨hk, ⟨_, _, _, _, _, rfl⟩⟩
      · rcases Res.bind_eq_pageFault h with h | ⟨_, v, h2, h⟩
        · exact absurd h storeBytes_not_pageFault
        · obtain ⟨hk, f⟩ := ih.2 h
          exact ⟨hk, ((translate_readFrame h1).toWrite.trans (storeBytes_frame h2)).trans f⟩

/-- A `MemWrite`, completed or faulting half-way, changes only what a write may. -/
theorem memWrite_frame {bs : List Byte} {l : Word} {s : State} :
    (∀ {u t}, memWrite l bs s = .ok u t → WriteFrame s t) ∧
    (∀ {x k t}, memWrite l bs s = .pageFault x k t → k = .write ∧ WriteFrame s t) := by
  unfold memWrite
  split_ifs with hs
  · exact writeByteByByte_frame
  · refine ⟨fun h => ?_, fun h => ?_⟩
    · obtain ⟨p, u, h1, h⟩ := Res.bind_eq_ok h
      exact (translate_readFrame h1).toWrite.trans (storeBytes_frame h)
    · rcases Res.bind_eq_pageFault h with h | ⟨p, u, h1, h⟩
      · obtain ⟨_, hk, rfl, _⟩ := translate_pageFault h; exact ⟨hk, ⟨_, _, _, _, _, rfl⟩⟩
      · exact absurd h storeBytes_not_pageFault

/-- A completed window fetch fills the window with 16 bytes and puts the cursor at its start. -/
theorem fetchWindow_ok {l : Word} {s t : State} {bs : List Byte} (h : fetchWindow l s = .ok bs t) :
    bs.length = windowLen ∧ ∃ u, memRead l windowLen .instructionFetch s = .ok bs u ∧ ReadFrame s u ∧ t = u.setWindow bs := by
  obtain ⟨bs', u, h1, h2⟩ := Res.bind_eq_ok h
  injection h2 with h2 h3
  subst h2 h3
  obtain ⟨hl, hf⟩ := memRead_ok h1
  exact ⟨hl, u, h1, hf, rfl⟩

/-! ### Register writes -/

/-- Writing a register location changes the general registers, nothing else. -/
theorem writeReg_frame (w : RegWidth) (i : RegIdx) (v : Nat) (s : State) :
    ∃ g, writeReg w i v s = { s with gpr := g } := by
  cases w
  · unfold writeReg State.setGpr8
    split_ifs <;> exact ⟨_, rfl⟩
  · exact ⟨_, rfl⟩
  · exact ⟨_, rfl⟩

/-! ### The collaborators -/

/-- The bytes a platform loads keep the canonical form of the backing store. -/
theorem physWrite_wf {p : Word} {bs : List Byte} {s t : State} {u : Unit} (h : physWrite p bs s = .ok u t)
    (hw : Memory.wf s.cfg.physSize s.pmem = true) : Memory.wf t.cfg.physSize t.pmem = true := by
  unfold physWrite at h
  split_ifs at h with hp
  injection h with _ h
  subst h
  exact Memory.writeBytes_wf bs hw hp

/-- A store at a translated address keeps the canonical form of the backing store. -/
theorem storeBytes_wf {p : Word} {bs : List Byte} {s t : State} {u : Unit} (h : storeBytes p bs s = .ok u t)
    (hw : Memory.wf s.cfg.physSize s.pmem = true) : Memory.wf t.cfg.physSize t.pmem = true := by
  rcases storeBytes_ok h with ⟨_, rfl⟩ | ⟨_, hp, rfl⟩
  · exact hw
  · exact Memory.writeBytes_wf bs hw hp

end Sys2Proof.Machine
end

