-- ==== Sys2Proof/Laws/PerInstr.lean ====
section
/-! SUPPORT. One lemma per instruction: how many bytes of the stream its words take (30_encoding.md R96, R101, R106). -/

namespace Sys2Proof.Laws.EncodedLength

open Sys2Proof

/-- Displacement length in 16-bit address mode (R94). -/
def dispLen16 (mod : BitVec 2) (rm : RegIdx) : Nat :=
  if mod = 0 then (if rm = 6 then 2 else 0) else if mod = 1 then 1 else if mod = 2 then 2 else 0

/-- Displacement length in 32-bit address mode without a SIB byte (R95); after an escape the SIB byte comes first (R173). -/
def dispLen32 (mod : BitVec 2) (rm : RegIdx) : Nat :=
  if mod = 0 then (if rm = 5 then 4 else 0)
  else if mod = 1 then (if rm = 4 then 0 else 1)
  else if mod = 2 then (if rm = 4 then 0 else 4) else 0

/-- Displacement length after a SIB byte (R95). -/
def dispLenSib (mod : BitVec 2) (base : RegIdx) : Nat :=
  if mod = 0 then (if base = 5 then 4 else 0) else if mod = 1 then 1 else 4

/-- "Bytes consumed by one resolve = 1 (ModR/M) + 1 if a SIB byte is present + the displacement length" (R96); a prefix is one
byte (R101); a port operation has no bit encoding (R106). -/
def lengthByRule (i : Instr) : Nat :=
  match i.modrmFields, i.sibFields, i.prefixByte with
  | some f, _, _ => 1 + (if f.addressSize32 then dispLen32 f.mod f.rm else dispLen16 f.mod f.rm)
  | none, some f, _ => 2 + dispLenSib f.mod f.base
  | none, none, some _ => 1
  | none, none, none => 0

/-- The words the encoder writes for an instruction are as long as the rules say. -/
def Statement (i : Instr) : Prop := (encode i).length = lengthByRule i

theorem a16M0Rm0 (reg : RegIdx) : Statement (.a16M0Rm0 reg) := rfl
theorem a16M0Rm1 (reg : RegIdx) : Statement (.a16M0Rm1 reg) := rfl
theorem a16M0Rm2 (reg : RegIdx) : Statement (.a16M0Rm2 reg) := rfl
theorem a16M0Rm3 (reg : RegIdx) : Statement (.a16M0Rm3 reg) := rfl
theorem a16M0Rm4 (reg : RegIdx) : Statement (.a16M0Rm4 reg) := rfl
theorem a16M0Rm5 (reg : RegIdx) : Statement (.a16M0Rm5 reg) := rfl
theorem a16M0Rm6 (reg : RegIdx) (disp : BitVec 16) : Statement (.a16M0Rm6 reg disp) := rfl
theorem a16M0Rm7 (reg : RegIdx) : Statement (.a16M0Rm7 reg) := rfl
theorem a16M1Rm0 (reg : RegIdx) (disp : BitVec 8) : Statement (.a16M1Rm0 reg disp) := rfl
theorem a16M1Rm1 (reg : RegIdx) (disp : BitVec 8) : Statement (.a16M1Rm1 reg disp) := rfl
theorem a16M1Rm2 (reg : RegIdx) (disp : BitVec 8) : Statement (.a16M1Rm2 reg disp) := rfl
theorem a16M1Rm3 (reg : RegIdx) (disp : BitVec 8) : Statement (.a16M1Rm3 reg disp) := rfl
theorem a16M1Rm4 (reg : RegIdx) (disp : BitVec 8) : Statement (.a16M1Rm4 reg disp) := rfl
theorem a16M1Rm5 (reg : RegIdx) (disp : BitVec 8) : Statement (.a16M1Rm5 reg disp) := rfl
theorem a16M1Rm6 (reg : RegIdx) (disp : BitVec 8) : Statement (.a16M1Rm6 reg disp) := rfl
theorem a16M1Rm7 (reg : RegIdx) (disp : BitVec 8) : Statement (.a16M1Rm7 reg disp) := rfl
theorem a16M2Rm0 (reg : RegIdx) (disp : BitVec 16) : Statement (.a16M2Rm0 reg disp) := rfl
theorem a16M2Rm1 (reg : RegIdx) (disp : BitVec 16) : Statement (.a16M2Rm1 reg disp) := rfl
theorem a16M2Rm2 (reg : RegIdx) (disp : BitVec 16) : Statement (.a16M2Rm2 reg disp) := rfl
theorem a16M2Rm3 (reg : RegIdx) (disp : BitVec 16) : Statement (.a16M2Rm3 reg disp) := rfl
theorem a16M2Rm4 (reg : RegIdx) (disp : BitVec 16) : Statement (.a16M2Rm4 reg disp) := rfl
theorem a16M2Rm5 (reg : RegIdx) (disp : BitVec 16) : Statement (.a16M2Rm5 reg disp) := rfl
theorem a16M2Rm6 (reg : RegIdx) (disp : BitVec 16) : Statement (.a16M2Rm6 reg disp) := rfl
theorem a16M2Rm7 (reg : RegIdx) (disp : BitVec 16) : Statement (.a16M2Rm7 reg disp) := rfl
theorem a16Reg (reg rm : RegIdx) : Statement (.a16Reg reg rm) := rfl
theorem a32M0Rm0 (reg : RegIdx) : Statement (.a32M0Rm0 reg) := rfl
theorem a32M0Rm1 (reg : RegIdx) : Statement (.a32M0Rm1 reg) := rfl
theorem a32M0Rm2 (reg : RegIdx) : Statement (.a32M0Rm2 reg) := rfl
theorem a32M0Rm3 (reg : RegIdx) : Statement (.a32M0Rm3 reg) := rfl
theorem a32M0Rm5 (reg : RegIdx) (disp : BitVec 32) : Statement (.a32M0Rm5 reg disp) := rfl
theorem a32M0Rm6 (reg : RegIdx) : Statement (.a32M0Rm6 reg) := rfl
theorem a32M0Rm7 (reg : RegIdx) : Statement (.a32M0Rm7 reg) := rfl
theorem a32M1Rm0 (reg : RegIdx) (disp : BitVec 8) : Statement (.a32M1Rm0 reg disp) := rfl
theorem a32M1Rm1 (reg : RegIdx) (disp : BitVec 8) : Statement (.a32M1Rm1 reg disp) := rfl
theorem a32M1Rm2 (reg : RegIdx) (disp : BitVec 8) : Statement (.a32M1Rm2 reg disp) := rfl
theorem a32M1Rm3 (reg : RegIdx) (disp : BitVec 8) : Statement (.a32M1Rm3 reg disp) := rfl
theorem a32M1Rm5 (reg : RegIdx) (disp : BitVec 8) : Statement (.a32M1Rm5 reg disp) := rfl
theorem a32M1Rm6 (reg : RegIdx) (disp : BitVec 8) : Statement (.a32M1Rm6 reg disp) := rfl
theorem a32M1Rm7 (reg : RegIdx) (disp : BitVec 8) : Statement (.a32M1Rm7 reg disp) := rfl
theorem a32M2Rm0 (reg : RegIdx) (disp : BitVec 32) : Statement (.a32M2Rm0 reg disp) := rfl
theorem a32M2Rm1 (reg : RegIdx) (disp : BitVec 32) : Statement (.a32M2Rm1 reg disp) := rfl
theorem a32M2Rm2 (reg : RegIdx) (disp : BitVec 32) : Statement (.a32M2Rm2 reg disp) := rfl
theorem a32M2Rm3 (reg : RegIdx) (disp : BitVec 32) : Statement (.a32M2Rm3 reg disp) := rfl
theorem a32M2Rm5 (reg : RegIdx) (disp : BitVec 32) : Statement (.a32M2Rm5 reg disp) := rfl
theorem a32M2Rm6 (reg : RegIdx) (disp : BitVec 32) : Statement (.a32M2Rm6 reg disp) := rfl
theorem a32M2Rm7 (reg : RegIdx) (disp : BitVec 32) : Statement (.a32M2Rm7 reg disp) := rfl
theorem a32Reg (reg rm : RegIdx) : Statement (.a32Reg reg rm) := rfl
theorem a32SibM0 (reg : RegIdx) : Statement (.a32SibM0 reg) := rfl
theorem a32SibM1 (reg : RegIdx) : Statement (.a32SibM1 reg) := rfl
theorem a32SibM2 (reg : RegIdx) : Statement (.a32SibM2 reg) := rfl
theorem a32SibM0B0I0 (reg : RegIdx) (scale : BitVec 2) : Statement (.a32SibM0B0I0 reg scale) := rfl
theorem a32SibM0B0I1 (reg : RegIdx) (scale : BitVec 2) : Statement (.a32SibM0B0I1 reg scale) := rfl
theorem a32SibM0B0I2 (reg : RegIdx) (scale : BitVec 2) : Statement (.a32SibM0B0I2 reg scale) := rfl
theorem a32SibM0B0I3 (reg : RegIdx) (scale : BitVec 2) : Statement (.a32SibM0B0I3 reg scale) := rfl
theorem a32SibM0B0I4 (reg : RegIdx) (scale : BitVec 2) : Statement (.a32SibM0B0I4 reg scale) := rfl
theorem a32SibM0B0I5 (reg : RegIdx) (scale : BitVec 2) : Statement (.a32SibM0B0I5 reg scale) := rfl
theorem a32SibM0B0I6 (reg : RegIdx) (scale : BitVec 2) : Statement (.a32SibM0B0I6 reg scale) := rfl
theorem a32SibM0B0I7 (reg : RegIdx) (scale : BitVec 2) : Statement (.a32SibM0B0I7 reg scale) := rfl
theorem a32SibM0B1I0 (reg : RegIdx) (scale : BitVec 2) : Statement (.a32SibM0B1I0 reg scale) := rfl
theorem a32SibM0B1I1 (reg : RegIdx) (scale : BitVec 2) : Statement (.a32SibM0B1I1 reg scale) := rfl
theorem a32SibM0B1I2 (reg : RegIdx) (scale : BitVec 2) : Statement (.a32SibM0B1I2 reg scale) := rfl
theorem a32SibM0B1I3 (reg : RegIdx) (scale : BitVec 2) : Statement (.a32SibM0B1I3 reg scale) := rfl
theorem a32SibM0B1I4 (reg : RegIdx) (scale : BitVec 2) : Statement (.a32SibM0B1I4 reg scale) := rfl
theorem a32SibM0B1I5 (reg : RegIdx) (scale : BitVec 2) : Statement (.a32SibM0B1I5 reg scale) := rfl
theorem a32SibM0B1I6 (reg : RegIdx) (scale : BitVec 2) : Statement (.a32SibM0B1I6 reg scale) := rfl
theorem a32SibM0B1I7 (reg : RegIdx) (scale : BitVec 2) : Statement (.a32SibM0B1I7 reg scale) := rfl
theorem a32SibM0B2I0 (reg : RegIdx) (scale : BitVec 2) : Statement (.a32SibM0B2I0 reg scale) := rfl
theorem a32SibM0B2I1 (reg : RegIdx) (scale : BitVec 2) : Statement (.a32SibM0B2I1 reg scale) := rfl
theorem a32SibM0B2I2 (reg : RegIdx) (scale : BitVec 2) : Statement (.a32SibM0B2I2 reg scale) := rfl
theorem a32SibM0B2I3 (reg : RegIdx) (scale : BitVec 2) : Statement (.a32SibM0B2I3 reg scale) := rfl
theorem a32SibM0B2I4 (reg : RegIdx) (scale : BitVec 2) : Statement (.a32SibM0B2I4 reg scale) := rfl
theorem a32SibM0B2I5 (reg : RegIdx) (scale : BitVec 2) : Statement (.a32SibM0B2I5 reg scale) := rfl
theorem a32SibM0B2I6 (reg : RegIdx) (scale : BitVec 2) : Statement (.a32SibM0B2I6 reg scale) := rfl
theorem a32SibM0B2I7 (reg : RegIdx) (scale : BitVec 2) : Statement (.a32SibM0B2I7 reg scale) := rfl
theorem a32SibM0B3I0 (reg : RegIdx) (scale : BitVec 2) : Statement (.a32SibM0B3I0 reg scale) := rfl
theorem a32SibM0B3I1 (reg : RegIdx) (scale : BitVec 2) : Statement (.a32SibM0B3I1 reg scale) := rfl
theorem a32SibM0B3I2 (reg : RegIdx) (scale : BitVec 2) : Statement (.a32SibM0B3I2 reg scale) := rfl
theorem a32SibM0B3I3 (reg : RegIdx) (scale : BitVec 2) : Statement (.a32SibM0B3I3 reg scale) := rfl
theorem a32SibM0B3I4 (reg : RegIdx) (scale : BitVec 2) : Statement (.a32SibM0B3I4 reg scale) := rfl
theorem a32SibM0B3I5 (reg : RegIdx) (scale : BitVec 2) : Statement (.a32SibM0B3I5 reg scale) := rfl
theorem a32SibM0B3I6 (reg : RegIdx) (scale : BitVec 2) : Statement (.a32SibM0B3I6 reg scale) := rfl
theorem a32SibM0B3I7 (reg : RegIdx) (scale : BitVec 2) : Statement (.a32SibM0B3I7 reg scale) := rfl
theorem a32SibM0B4I0 (reg : RegIdx) (scale : BitVec 2) : Statement (.a32SibM0B4I0 reg scale) := rfl
theorem a32SibM0B4I1 (reg : RegIdx) (scale : BitVec 2) : Statement (.a32SibM0B4I1 reg scale) := rfl
theorem a32SibM0B4I2 (reg : RegIdx) (scale : BitVec 2) : Statement (.a32SibM0B4I2 reg scale) := rfl
theorem a32SibM0B4I3 (reg : RegIdx) (scale : BitVec 2) : Statement (.a32SibM0B4I3 reg scale) := rfl
theorem a32SibM0B4I4 (reg : RegIdx) (scale : BitVec 2) : Statement (.a32SibM0B4I4 reg scale) := rfl
theorem a32SibM0B4I5 (reg : RegIdx) (scale : BitVec 2) : Statement (.a32SibM0B4I5 reg scale) := rfl
theorem a32SibM0B4I6 (reg : RegIdx) (scale : BitVec 2) : Statement (.a32SibM0B4I6 reg scale) := rfl
theorem a32SibM0B4I7 (reg : RegIdx) (scale : BitVec 2) : Statement (.a32SibM0B4I7 reg scale) := rfl
theorem a32SibM0B5I0 (reg : RegIdx) (scale : BitVec 2) (disp : BitVec 32) : Statement (.a32SibM0B5I0 reg scale disp) := rfl
theorem a32SibM0B5I1 (reg : RegIdx) (scale : BitVec 2) (disp : BitVec 32) : Statement (.a32SibM0B5I1 reg scale disp) := rfl
theorem a32SibM0B5I2 (reg : RegIdx) (scale : BitVec 2) (disp : BitVec 32) : Statement (.a32SibM0B5I2 reg scale disp) := rfl
theorem a32SibM0B5I3 (reg : RegIdx) (scale : BitVec 2) (disp : BitVec 32) : Statement (.a32SibM0B5I3 reg scale disp) := rfl
theorem a32SibM0B5I4 (reg : RegIdx) (scale : BitVec 2) (disp : BitVec 32) : Statement (.a32SibM0B5I4 reg scale disp) := rfl
theorem a32SibM0B5I5 (reg : RegIdx) (scale : BitVec 2) (disp : BitVec 32) : Statement (.a32SibM0B5I5 reg scale disp) := rfl
theorem a32SibM0B5I6 (reg : RegIdx) (scale : BitVec 2) (disp : BitVec 32) : Statement (.a32SibM0B5I6 reg scale disp) := rfl
theorem a32SibM0B5I7 (reg : RegIdx) (scale : BitVec 2) (disp : BitVec 32) : Statement (.a32SibM0B5I7 reg scale disp) := rfl
theorem a32SibM0B6I0 (reg : RegIdx) (scale : BitVec 2) : Statement (.a32SibM0B6I0 reg scale) := rfl
theorem a32SibM0B6I1 (reg : RegIdx) (scale : BitVec 2) : Statement (.a32SibM0B6I1 reg scale) := rfl
theorem a32SibM0B6I2 (reg : RegIdx) (scale : BitVec 2) : Statement (.a32SibM0B6I2 reg scale) := rfl
theorem a32SibM0B6I3 (reg : RegIdx) (scale : BitVec 2) : Statement (.a32SibM0B6I3 reg scale) := rfl
theorem a32SibM0B6I4 (reg : RegIdx) (scale : BitVec 2) : Statement (.a32SibM0B6I4 reg scale) := rfl
theorem a32SibM0B6I5 (reg : RegIdx) (scale : BitVec 2) : Statement (.a32SibM0B6I5 reg scale) := rfl
theorem a32SibM0B6I6 (reg : RegIdx) (scale : BitVec 2) : Statement (.a32SibM0B6I6 reg scale) := rfl
theorem a32SibM0B6I7 (reg : RegIdx) (scale : BitVec 2) : Statement (.a32SibM0B6I7 reg scale) := rfl
theorem a32SibM0B7I0 (reg : RegIdx) (scale : BitVec 2) : Statement (.a32SibM0B7I0 reg scale) := rfl
theorem a32SibM0B7I1 (reg : RegIdx) (scale : BitVec 2) : Statement (.a32SibM0B7I1 reg scale) := rfl
theorem a32SibM0B7I2 (reg : RegIdx) (scale : BitVec 2) : Statement (.a32SibM0B7I2 reg scale) := rfl
theorem a32SibM0B7I3 (reg : RegIdx) (scale : BitVec 2) : Statement (.a32SibM0B7I3 reg scale) := rfl
theorem a32SibM0B7I4 (reg : RegIdx) (scale : BitVec 2) : Statement (.a32SibM0B7I4 reg scale) := rfl
theorem a32SibM0B7I5 (reg : RegIdx) (scale : BitVec 2) : Statement (.a32SibM0B7I5 reg scale) := rfl
theorem a32SibM0B7I6 (reg : RegIdx) (scale : BitVec 2) : Statement (.a32SibM0B7I6 reg scale) := rfl
theorem a32SibM0B7I7 (reg : RegIdx) (scale : BitVec 2) : Statement (.a32SibM0B7I7 reg scale) := rfl
theorem a32SibM1B0I0 (reg : RegIdx) (scale : BitVec 2) (disp : BitVec 8) : Statement (.a32SibM1B0I0 reg scale disp) := rfl
theorem a32SibM1B0I1 (reg : RegIdx) (scale : BitVec 2) (disp : BitVec 8) : Statement (.a32SibM1B0I1 reg scale disp) := rfl
theorem a32SibM1B0I2 (reg : RegIdx) (scale : BitVec 2) (disp : BitVec 8) : Statement (.a32SibM1B0I2 reg scale disp) := rfl
theorem a32SibM1B0I3 (reg : RegIdx) (scale : BitVec 2) (disp : BitVec 8) : Statement (.a32SibM1B0I3 reg scale disp) := rfl
theorem a32SibM1B0I4 (reg : RegIdx) (scale : BitVec 2) (disp : BitVec 8) : Statement (.a32SibM1B0I4 reg scale disp) := rfl
theorem a32SibM1B0I5 (reg : RegIdx) (scale : BitVec 2) (disp : BitVec 8) : Statement (.a32SibM1B0I5 reg scale disp) := rfl
theorem a32SibM1B0I6 (reg : RegIdx) (scale : BitVec 2) (disp : BitVec 8) : Statement (.a32SibM1B0I6 reg scale disp) := rfl
theorem a32SibM1B0I7 (reg : RegIdx) (scale : BitVec 2) (disp : BitVec 8) : Statement (.a32SibM1B0I7 reg scale disp) := rfl
theorem a32SibM1B1I0 (reg : RegIdx) (scale : BitVec 2) (disp : BitVec 8) : Statement (.a32SibM1B1I0 reg scale disp) := rfl
theorem a32SibM1B1I1 (reg : RegIdx) (scale : BitVec 2) (disp : BitVec 8) : Statement (.a32SibM1B1I1 reg scale disp) := rfl
theorem a32SibM1B1I2 (reg : RegIdx) (scale : BitVec 2) (disp : BitVec 8) : Statement (.a32SibM1B1I2 reg scale disp) := rfl
theorem a32SibM1B1I3 (reg : RegIdx) (scale : BitVec 2) (disp : BitVec 8) : Statement (.a32SibM1B1I3 reg scale disp) := rfl
theorem a32SibM1B1I4 (reg : RegIdx) (scale : BitVec 2) (disp : BitVec 8) : Statement (.a32SibM1B1I4 reg scale disp) := rfl
theorem a32SibM1B1I5 (reg : RegIdx) (scale : BitVec 2) (disp : BitVec 8) : Statement (.a32SibM1B1I5 reg scale disp) := rfl
theorem a32SibM1B1I6 (reg : RegIdx) (scale : BitVec 2) (disp : BitVec 8) : Statement (.a32SibM1B1I6 reg scale disp) := rfl
theorem a32SibM1B1I7 (reg : RegIdx) (scale : BitVec 2) (disp : BitVec 8) : Statement (.a32SibM1B1I7 reg scale disp) := rfl
theorem a32SibM1B2I0 (reg : RegIdx) (scale : BitVec 2) (disp : BitVec 8) : Statement (.a32SibM1B2I0 reg scale disp) := rfl
theorem a32SibM1B2I1 (reg : RegIdx) (scale : BitVec 2) (disp : BitVec 8) : Statement (.a32SibM1B2I1 reg scale disp) := rfl
theorem a32SibM1B2I2 (reg : RegIdx) (scale : BitVec 2) (disp : BitVec 8) : Statement (.a32SibM1B2I2 reg scale disp) := rfl
theorem a32SibM1B2I3 (reg : RegIdx) (scale : BitVec 2) (disp : BitVec 8) : Statement (.a32SibM1B2I3 reg scale disp) := rfl
theorem a32SibM1B2I4 (reg : RegIdx) (scale : BitVec 2) (disp : BitVec 8) : Statement (.a32SibM1B2I4 reg scale disp) := rfl
theorem a32SibM1B2I5 (reg : RegIdx) (scale : BitVec 2) (disp : BitVec 8) : Statement (.a32SibM1B2I5 reg scale disp) := rfl
theorem a32SibM1B2I6 (reg : RegIdx) (scale : BitVec 2) (disp : BitVec 8) : Statement (.a32SibM1B2I6 reg scale disp) := rfl
theorem a32SibM1B2I7 (reg : RegIdx) (scale : BitVec 2) (disp : BitVec 8) : Statement (.a32SibM1B2I7 reg scale disp) := rfl
theorem a32SibM1B3I0 (reg : RegIdx) (scale : BitVec 2) (disp : BitVec 8) : Statement (.a32SibM1B3I0 reg scale disp) := rfl
theorem a32SibM1B3I1 (reg : RegIdx) (scale : BitVec 2) (disp : BitVec 8) : Statement (.a32SibM1B3I1 reg scale disp) := rfl
theorem a32SibM1B3I2 (reg : RegIdx) (scale : BitVec 2) (disp : BitVec 8) : Statement (.a32SibM1B3I2 reg scale disp) := rfl
theorem a32SibM1B3I3 (reg : RegIdx) (scale : BitVec 2) (disp : BitVec 8) : Statement (.a32SibM1B3I3 reg scale disp) := rfl
theorem a32SibM1B3I4 (reg : RegIdx) (scale : BitVec 2) (disp : BitVec 8) : Statement (.a32SibM1B3I4 reg scale disp) := rfl
theorem a32SibM1B3I5 (reg : RegIdx) (scale : BitVec 2) (disp : BitVec 8) : Statement (.a32SibM1B3I5 reg scale disp) := rfl
theorem a32SibM1B3I6 (reg : RegIdx) (scale : BitVec 2) (disp : BitVec 8) : Statement (.a32SibM1B3I6 reg scale disp) := rfl
theorem a32SibM1B3I7 (reg : RegIdx) (scale : BitVec 2) (disp : BitVec 8) : Statement (.a32SibM1B3I7 reg scale disp) := rfl
theorem a32SibM1B4I0 (reg : RegIdx) (scale : BitVec 2) (disp : BitVec 8) : Statement (.a32SibM1B4I0 reg scale disp) := rfl
theorem a32SibM1B4I1 (reg : RegIdx) (scale : BitVec 2) (disp : BitVec 8) : Statement (.a32SibM1B4I1 reg scale disp) := rfl
theorem a32SibM1B4I2 (reg : RegIdx) (scale : BitVec 2) (disp : BitVec 8) : Statement (.a32SibM1B4I2 reg scale disp) := rfl
theorem a32SibM1B4I3 (reg : RegIdx) (scale : BitVec 2) (disp : BitVec 8) : Statement (.a32SibM1B4I3 reg scale disp) := rfl
theorem a32SibM1B4I4 (reg : RegIdx) (scale : BitVec 2) (disp : BitVec 8) : Statement (.a32SibM1B4I4 reg scale disp) := rfl
theorem a32SibM1B4I5 (reg : RegIdx) (scale : BitVec 2) (disp : BitVec 8) : Statement (.a32SibM1B4I5 reg scale disp) := rfl
theorem a32SibM1B4I6 (reg : RegIdx) (scale : BitVec 2) (disp : BitVec 8) : Statement (.a32SibM1B4I6 reg scale disp) := rfl
theorem a32SibM1B4I7 (reg : RegIdx) (scale : BitVec 2) (disp : BitVec 8) : Statement (.a32SibM1B4I7 reg scale disp) := rfl
theorem a32SibM1B5I0 (reg : RegIdx) (scale : BitVec 2) (disp : BitVec 8) : Statement (.a32SibM1B5I0 reg scale disp) := rfl
theorem a32SibM1B5I1 (reg : RegIdx) (scale : BitVec 2) (disp : BitVec 8) : Statement (.a32SibM1B5I1 reg scale disp) := rfl
theorem a32SibM1B5I2 (reg : RegIdx) (scale : BitVec 2) (disp : BitVec 8) : Statement (.a32SibM1B5I2 reg scale disp) := rfl
theorem a32SibM1B5I3 (reg : RegIdx) (scale : BitVec 2) (disp : BitVec 8) : Statement (.a32SibM1B5I3 reg scale disp) := rfl
theorem a32SibM1B5I4 (reg : RegIdx) (scale : BitVec 2) (disp : BitVec 8) : Statement (.a32SibM1B5I4 reg scale disp) := rfl
theorem a32SibM1B5I5 (reg : RegIdx) (scale : BitVec 2) (disp : BitVec 8) : Statement (.a32SibM1B5I5 reg scale disp) := rfl
theorem a32SibM1B5I6 (reg : RegIdx) (scale : BitVec 2) (disp : BitVec 8) : Statement (.a32SibM1B5I6 reg scale disp) := rfl
theorem a32SibM1B5I7 (reg : RegIdx) (scale : BitVec 2) (disp : BitVec 8) : Statement (.a32SibM1B5I7 reg scale disp) := rfl
theorem a32SibM1B6I0 (reg : RegIdx) (scale : BitVec 2) (disp : BitVec 8) : Statement (.a32SibM1B6I0 reg scale disp) := rfl
theorem a32SibM1B6I1 (reg : RegIdx) (scale : BitVec 2) (disp : BitVec 8) : Statement (.a32SibM1B6I1 reg scale disp) := rfl
theorem a32SibM1B6I2 (reg : RegIdx) (scale : BitVec 2) (disp : BitVec 8) : Statement (.a32SibM1B6I2 reg scale disp) := rfl
theorem a32SibM1B6I3 (reg : RegIdx) (scale : BitVec 2) (disp : BitVec 8) : Statement (.a32SibM1B6I3 reg scale disp) := rfl
theorem a32SibM1B6I4 (reg : RegIdx) (scale : BitVec 2) (disp : BitVec 8) : Statement (.a32SibM1B6I4 reg scale disp) := rfl
theorem a32SibM1B6I5 (reg : RegIdx) (scale : BitVec 2) (disp : BitVec 8) : Statement (.a32SibM1B6I5 reg scale disp) := rfl
theorem a32SibM1B6I6 (reg : RegIdx) (scale : BitVec 2) (disp : BitVec 8) : Statement (.a32SibM1B6I6 reg scale disp) := rfl
theorem a32SibM1B6I7 (reg : RegIdx) (scale : BitVec 2) (disp : BitVec 8) : Statement (.a32SibM1B6I7 reg scale disp) := rfl
theorem a32SibM1B7I0 (reg : RegIdx) (scale : BitVec 2) (disp : BitVec 8) : Statement (.a32SibM1B7I0 reg scale disp) := rfl
theorem a32SibM1B7I1 (reg : RegIdx) (scale : BitVec 2) (disp : BitVec 8) : Statement (.a32SibM1B7I1 reg scale disp) := rfl
theorem a32SibM1B7I2 (reg : RegIdx) (scale : BitVec 2) (disp : BitVec 8) : Statement (.a32SibM1B7I2 reg scale disp) := rfl
theorem a32SibM1B7I3 (reg : RegIdx) (scale : BitVec 2) (disp : BitVec 8) : Statement (.a32SibM1B7I3 reg scale disp) := rfl
theorem a32SibM1B7I4 (reg : RegIdx) (scale : BitVec 2) (disp : BitVec 8) : Statement (.a32SibM1B7I4 reg scale disp) := rfl
theorem a32SibM1B7I5 (reg : RegIdx) (scale : BitVec 2) (disp : BitVec 8) : Statement (.a32SibM1B7I5 reg scale disp) := rfl
theorem a32SibM1B7I6 (reg : RegIdx) (scale : BitVec 2) (disp : BitVec 8) : Statement (.a32SibM1B7I6 reg scale disp) := rfl
theorem a32SibM1B7I7 (reg : RegIdx) (scale : BitVec 2) (disp : BitVec 8) : Statement (.a32SibM1B7I7 reg scale disp) := rfl
theorem a32SibM2B0I0 (reg : RegIdx) (scale : BitVec 2) (disp : BitVec 32) : Statement (.a32SibM2B0I0 reg scale disp) := rfl
theorem a32SibM2B0I1 (reg : RegIdx) (scale : BitVec 2) (disp : BitVec 32) : Statement (.a32SibM2B0I1 reg scale disp) := rfl
theorem a32SibM2B0I2 (reg : RegIdx) (scale : BitVec 2) (disp : BitVec 32) : Statement (.a32SibM2B0I2 reg scale disp) := rfl
theorem a32SibM2B0I3 (reg : RegIdx) (scale : BitVec 2) (disp : BitVec 32) : Statement (.a32SibM2B0I3 reg scale disp) := rfl
theorem a32SibM2B0I4 (reg : RegIdx) (scale : BitVec 2) (disp : BitVec 32) : Statement (.a32SibM2B0I4 reg scale disp) := rfl
theorem a32SibM2B0I5 (reg : RegIdx) (scale : BitVec 2) (disp : BitVec 32) : Statement (.a32SibM2B0I5 reg scale disp) := rfl
theorem a32SibM2B0I6 (reg : RegIdx) (scale : BitVec 2) (disp : BitVec 32) : Statement (.a32SibM2B0I6 reg scale disp) := rfl
theorem a32SibM2B0I7 (reg : RegIdx) (scale : BitVec 2) (disp : BitVec 32) : Statement (.a32SibM2B0I7 reg scale disp) := rfl
theorem a32SibM2B1I0 (reg : RegIdx) (scale : BitVec 2) (disp : BitVec 32) : Statement (.a32SibM2B1I0 reg scale disp) := rfl
theorem a32SibM2B1I1 (reg : RegIdx) (scale : BitVec 2) (disp : BitVec 32) : Statement (.a32SibM2B1I1 reg scale disp) := rfl
theorem a32SibM2B1I2 (reg : RegIdx) (scale : BitVec 2) (disp : BitVec 32) : Statement (.a32SibM2B1I2 reg scale disp) := rfl
theorem a32SibM2B1I3 (reg : RegIdx) (scale : BitVec 2) (disp : BitVec 32) : Statement (.a32SibM2B1I3 reg scale disp) := rfl
theorem a32SibM2B1I4 (reg : RegIdx) (scale : BitVec 2) (disp : BitVec 32) : Statement (.a32SibM2B1I4 reg scale disp) := rfl
theorem a32SibM2B1I5 (reg : RegIdx) (scale : BitVec 2) (disp : BitVec 32) : Statement (.a32SibM2B1I5 reg scale disp) := rfl
theorem a32SibM2B1I6 (reg : RegIdx) (scale : BitVec 2) (disp : BitVec 32) : Statement (.a32SibM2B1I6 reg scale disp) := rfl
theorem a32SibM2B1I7 (reg : RegIdx) (scale : BitVec 2) (disp : BitVec 32) : Statement (.a32SibM2B1I7 reg scale disp) := rfl
theorem a32SibM2B2I0 (reg : RegIdx) (scale : BitVec 2) (disp : BitVec 32) : Statement (.a32SibM2B2I0 reg scale disp) := rfl
theorem a32SibM2B2I1 (reg : RegIdx) (scale : BitVec 2) (disp : BitVec 32) : Statement (.a32SibM2B2I1 reg scale disp) := rfl
theorem a32SibM2B2I2 (reg : RegIdx) (scale : BitVec 2) (disp : BitVec 32) : Statement (.a32SibM2B2I2 reg scale disp) := rfl
theorem a32SibM2B2I3 (reg : RegIdx) (scale : BitVec 2) (disp : BitVec 32) : Statement (.a32SibM2B2I3 reg scale disp) := rfl
theorem a32SibM2B2I4 (reg : RegIdx) (scale : BitVec 2) (disp : BitVec 32) : Statement (.a32SibM2B2I4 reg scale disp) := rfl
theorem a32SibM2B2I5 (reg : RegIdx) (scale : BitVec 2) (disp : BitVec 32) : Statement (.a32SibM2B2I5 reg scale disp) := rfl
theorem a32SibM2B2I6 (reg : RegIdx) (scale : BitVec 2) (disp : BitVec 32) : Statement (.a32SibM2B2I6 reg scale disp) := rfl
theorem a32SibM2B2I7 (reg : RegIdx) (scale : BitVec 2) (disp : BitVec 32) : Statement (.a32SibM2B2I7 reg scale disp) := rfl
theorem a32SibM2B3I0 (reg : RegIdx) (scale : BitVec 2) (disp : BitVec 32) : Statement (.a32SibM2B3I0 reg scale disp) := rfl
theorem a32SibM2B3I1 (reg : RegIdx) (scale : BitVec 2) (disp : BitVec 32) : Statement (.a32SibM2B3I1 reg scale disp) := rfl
theorem a32SibM2B3I2 (reg : RegIdx) (scale : BitVec 2) (disp : BitVec 32) : Statement (.a32SibM2B3I2 reg scale disp) := rfl
theorem a32SibM2B3I3 (reg : RegIdx) (scale : BitVec 2) (disp : BitVec 32) : Statement (.a32SibM2B3I3 reg scale disp) := rfl
theorem a32SibM2B3I4 (reg : RegIdx) (scale : BitVec 2) (disp : BitVec 32) : Statement (.a32SibM2B3I4 reg scale disp) := rfl
theorem a32SibM2B3I5 (reg : RegIdx) (scale : BitVec 2) (disp : BitVec 32) : Statement (.a32SibM2B3I5 reg scale disp) := rfl
theorem a32SibM2B3I6 (reg : RegIdx) (scale : BitVec 2) (disp : BitVec 32) : Statement (.a32SibM2B3I6 reg scale disp) := rfl
theorem a32SibM2B3I7 (reg : RegIdx) (scale : BitVec 2) (disp : BitVec 32) : Statement (.a32SibM2B3I7 reg scale disp) := rfl
theorem a32SibM2B4I0 (reg : RegIdx) (scale : BitVec 2) (disp : BitVec 32) : Statement (.a32SibM2B4I0 reg scale disp) := rfl
theorem a32SibM2B4I1 (reg : RegIdx) (scale : BitVec 2) (disp : BitVec 32) : Statement (.a32SibM2B4I1 reg scale disp) := rfl
theorem a32SibM2B4I2 (reg : RegIdx) (scale : BitVec 2) (disp : BitVec 32) : Statement (.a32SibM2B4I2 reg scale disp) := rfl
theorem a32SibM2B4I3 (reg : RegIdx) (scale : BitVec 2) (disp : BitVec 32) : Statement (.a32SibM2B4I3 reg scale disp) := rfl
theorem a32SibM2B4I4 (reg : RegIdx) (scale : BitVec 2) (disp : BitVec 32) : Statement (.a32SibM2B4I4 reg scale disp) := rfl
theorem a32SibM2B4I5 (reg : RegIdx) (scale : BitVec 2) (disp : BitVec 32) : Statement (.a32SibM2B4I5 reg scale disp) := rfl
theorem a32SibM2B4I6 (reg : RegIdx) (scale : BitVec 2) (disp : BitVec 32) : Statement (.a32SibM2B4I6 reg scale disp) := rfl
theorem a32SibM2B4I7 (reg : RegIdx) (scale : BitVec 2) (disp : BitVec 32) : Statement (.a32SibM2B4I7 reg scale disp) := rfl
theorem a32SibM2B5I0 (reg : RegIdx) (scale : BitVec 2) (disp : BitVec 32) : Statement (.a32SibM2B5I0 reg scale disp) := rfl
theorem a32SibM2B5I1 (reg : RegIdx) (scale : BitVec 2) (disp : BitVec 32) : Statement (.a32SibM2B5I1 reg scale disp) := rfl
theorem a32SibM2B5I2 (reg : RegIdx) (scale : BitVec 2) (disp : BitVec 32) : Statement (.a32SibM2B5I2 reg scale disp) := rfl
theorem a32SibM2B5I3 (reg : RegIdx) (scale : BitVec 2) (disp : BitVec 32) : Statement (.a32SibM2B5I3 reg scale disp) := rfl
theorem a32SibM2B5I4 (reg : RegIdx) (scale : BitVec 2) (disp : BitVec 32) : Statement (.a32SibM2B5I4 reg scale disp) := rfl
theorem a32SibM2B5I5 (reg : RegIdx) (scale : BitVec 2) (disp : BitVec 32) : Statement (.a32SibM2B5I5 reg scale disp) := rfl
theorem a32SibM2B5I6 (reg : RegIdx) (scale : BitVec 2) (disp : BitVec 32) : Statement (.a32SibM2B5I6 reg scale disp) := rfl
theorem a32SibM2B5I7 (reg : RegIdx) (scale : BitVec 2) (disp : BitVec 32) : Statement (.a32SibM2B5I7 reg scale disp) := rfl
theorem a32SibM2B6I0 (reg : RegIdx) (scale : BitVec 2) (disp : BitVec 32) : Statement (.a32SibM2B6I0 reg scale disp) := rfl
theorem a32SibM2B6I1 (reg : RegIdx) (scale : BitVec 2) (disp : BitVec 32) : Statement (.a32SibM2B6I1 reg scale disp) := rfl
theorem a32SibM2B6I2 (reg : RegIdx) (scale : BitVec 2) (disp : BitVec 32) : Statement (.a32SibM2B6I2 reg scale disp) := rfl
theorem a32SibM2B6I3 (reg : RegIdx) (scale : BitVec 2) (disp : BitVec 32) : Statement (.a32SibM2B6I3 reg scale disp) := rfl
theorem a32SibM2B6I4 (reg : RegIdx) (scale : BitVec 2) (disp : BitVec 32) : Statement (.a32SibM2B6I4 reg scale disp) := rfl
theorem a32SibM2B6I5 (reg : RegIdx) (scale : BitVec 2) (disp : BitVec 32) : Statement (.a32SibM2B6I5 reg scale disp) := rfl
theorem a32SibM2B6I6 (reg : RegIdx) (scale : BitVec 2) (disp : BitVec 32) : Statement (.a32SibM2B6I6 reg scale disp) := rfl
theorem a32SibM2B6I7 (reg : RegIdx) (scale : BitVec 2) (disp : BitVec 32) : Statement (.a32SibM2B6I7 reg scale disp) := rfl
theorem a32SibM2B7I0 (reg : RegIdx) (scale : BitVec 2) (disp : BitVec 32) : Statement (.a32SibM2B7I0 reg scale disp) := rfl
theorem a32SibM2B7I1 (reg : RegIdx) (scale : BitVec 2) (disp : BitVec 32) : Statement (.a32SibM2B7I1 reg scale disp) := rfl
theorem a32SibM2B7I2 (reg : RegIdx) (scale : BitVec 2) (disp : BitVec 32) : Statement (.a32SibM2B7I2 reg scale disp) := rfl
theorem a32SibM2B7I3 (reg : RegIdx) (scale : BitVec 2) (disp : BitVec 32) : Statement (.a32SibM2B7I3 reg scale disp) := rfl
theorem a32SibM2B7I4 (reg : RegIdx) (scale : BitVec 2) (disp : BitVec 32) : Statement (.a32SibM2B7I4 reg scale disp) := rfl
theorem a32SibM2B7I5 (reg : RegIdx) (scale : BitVec 2) (disp : BitVec 32) : Statement (.a32SibM2B7I5 reg scale disp) := rfl
theorem a32SibM2B7I6 (reg : RegIdx) (scale : BitVec 2) (disp : BitVec 32) : Statement (.a32SibM2B7I6 reg scale disp) := rfl
theorem a32SibM2B7I7 (reg : RegIdx) (scale : BitVec 2) (disp : BitVec 32) : Statement (.a32SibM2B7I7 reg scale disp) := rfl
theorem prefixEs : Statement (.prefixEs) := rfl
theorem prefixCs : Statement (.prefixCs) := rfl
theorem prefixSs : Statement (.prefixSs) := rfl
theorem prefixDs : Statement (.prefixDs) := rfl
theorem prefixFs : Statement (.prefixFs) := rfl
theorem prefixGs : Statement (.prefixGs) := rfl
theorem prefixOpsize : Statement (.prefixOpsize) := rfl
theorem prefixAddrsize : Statement (.prefixAddrsize) := rfl
theorem resolve : Statement (.resolve) := rfl
theorem translate : Statement (.translate) := rfl
theorem memRead : Statement (.memRead) := rfl
theorem memWrite : Statement (.memWrite) := rfl
theorem fetchWindow : Statement (.fetchWindow) := rfl
theorem writePdBase : Statement (.writePdBase) := rfl
theorem flushCache : Statement (.flushCache) := rfl
theorem setA20 : Statement (.setA20) := rfl
theorem reset : Statement (.reset) := rfl

end Sys2Proof.Laws.EncodedLength
end

