-- ==== Sys2Proof/Laws/Resolver.lean ====
section
/-! SUPPORT. What the consumption primitives and the resolver can do: they move the cursor, nothing else, and their one way to
stop is the window's end (R98, R99, R120, R150). -/

namespace Sys2Proof.Machine

/-- `t` is `s` with the cursor further on, within the window. -/
def Consumed (s t : State) : Prop := ∃ n, t = s.setCursor (s.cursor + n) ∧ t.cursor ≤ max s.cursor s.win.length

theorem Consumed.refl (s : State) : Consumed s s := ⟨0, rfl, Nat.le_max_left _ _⟩

theorem Consumed.trans {s t u : State} (h1 : Consumed s t) (h2 : Consumed t u) : Consumed s u := by
  obtain ⟨n, rfl, hn⟩ := h1
  obtain ⟨m, rfl, hm⟩ := h2
  refine ⟨n + m, by simp [State.setCursor, Nat.add_assoc], ?_⟩
  simp only [State.setCursor] at hn hm ⊢
  omega

/-- An operation that only consumes: it completes so, or is refused because the window ends. -/
def OnlyConsumes {α : Type} (f : State → Res α) : Prop :=
  ∀ s, (∃ a t, f s = .ok a t ∧ Consumed s t) ∨ f s = .refused .windowOverrun

theorem onlyConsumes_ok {α : Type} (f : State → α) : OnlyConsumes fun s => .ok (f s) s :=
  fun s => .inl ⟨f s, s, rfl, .refl s⟩

theorem OnlyConsumes.bind {α β : Type} {f : State → Res α} {g : α → State → Res β} (hf : OnlyConsumes f)
    (hg : ∀ a, OnlyConsumes (g a)) : OnlyConsumes fun s => (f s).bind g := by
  intro s
  rcases hf s with ⟨a, t, h, ht⟩ | h
  · rcases hg a t with ⟨b, u, h', hu⟩ | h'
    · exact .inl ⟨b, u, by simp only [h, Res.bind_ok, h'], ht.trans hu⟩
    · exact .inr (by simp only [h, Res.bind_ok, h'])
  · exact .inr (by simp only [h, Res.bind_refused])

theorem OnlyConsumes.ite {α : Type} {c : State → Prop} [∀ s, Decidable (c s)] {f g : State → Res α} (hf : OnlyConsumes f)
    (hg : OnlyConsumes g) : OnlyConsumes fun s => if c s then f s else g s := by
  intro s
  by_cases h : c s
  · simpa only [h, if_true] using hf s
  · simpa only [h, if_false] using hg s

theorem fetch8_onlyConsumes : OnlyConsumes fetch8 := by
  intro s
  unfold fetch8
  split
  · next b h =>
    have : s.cursor < s.win.length := (List.getElem?_eq_some_iff.mp h).1
    exact .inl ⟨b, _, rfl, 1, rfl, by simp only [State.setCursor]; omega⟩
  · exact .inr rfl

theorem fetch16_onlyConsumes : OnlyConsumes fetch16 :=
  fetch8_onlyConsumes.bind fun _ => fetch8_onlyConsumes.bind fun _ => onlyConsumes_ok _

theorem fetch32_onlyConsumes : OnlyConsumes fetch32 :=
  fetch16_onlyConsumes.bind fun _ => fetch16_onlyConsumes.bind fun _ => onlyConsumes_ok _

theorem addDisp16_onlyConsumes (mod : BitVec 2) (sum : BitVec 16) : OnlyConsumes (addDisp16 mod sum) :=
  .ite (fetch8_onlyConsumes.bind fun _ => onlyConsumes_ok _)
    (.ite (fetch16_onlyConsumes.bind fun _ => onlyConsumes_ok _) (onlyConsumes_ok _))

theorem addDisp32_onlyConsumes (mod : BitVec 2) (sum : Word) : OnlyConsumes (addDisp32 mod sum) :=
  .ite (fetch8_onlyConsumes.bind fun _ => onlyConsumes_ok _)
    (.ite (fetch32_onlyConsumes.bind fun _ => onlyConsumes_ok _) (onlyConsumes_ok _))

theorem resolve16_onlyConsumes : OnlyConsumes resolve16 := by
  refine fetch8_onlyConsumes.bind fun m => .ite (onlyConsumes_ok _) (.ite ?_ ?_)
  · exact fetch16_onlyConsumes.bind fun _ => onlyConsumes_ok fun s => (s.memLocation _ _, _)
  · intro s
    exact ((addDisp16_onlyConsumes _ _).bind fun _ => onlyConsumes_ok fun t => (t.memLocation _ _, _)) s

theorem resolveSib_onlyConsumes (mod : BitVec 2) : OnlyConsumes (resolveSib mod) := by
  refine fetch8_onlyConsumes.bind fun sib s => ?_
  by_cases h : baseOf sib = 5 ∧ mod = 0
  · simp only [h, and_self, if_true]
    exact (fetch32_onlyConsumes.bind fun _ => onlyConsumes_ok _) s
  · simp only [h, if_false]
    exact .inl ⟨_, s, rfl, .refl s⟩

theorem resolveEscape_onlyConsumes (mod : BitVec 2) (reg : RegIdx) : OnlyConsumes (resolveEscape mod reg) :=
  (resolveSib_onlyConsumes mod).bind fun _ => (addDisp32_onlyConsumes _ _).bind fun _ =>
    onlyConsumes_ok fun s => (s.memLocation _ _, _)

theorem resolve32_onlyConsumes : OnlyConsumes resolve32 := by
  refine fetch8_onlyConsumes.bind fun m => .ite (onlyConsumes_ok _) (.ite (resolveEscape_onlyConsumes _ _) (.ite ?_ ?_))
  · exact fetch32_onlyConsumes.bind fun _ => onlyConsumes_ok fun s => (s.memLocation _ _, _)
  · intro s
    exact ((addDisp32_onlyConsumes _ _).bind fun _ => onlyConsumes_ok fun t => (t.memLocation _ _, _)) s

/-- `Resolve` consumes bytes of the window and changes nothing else; it raises no PageFault and no other fault. -/
theorem resolve_onlyConsumes : OnlyConsumes resolve := .ite resolve32_onlyConsumes resolve16_onlyConsumes

/-- The location of a CPU instruction's r/m operand is found by consuming alone. -/
theorem locate_onlyConsumes (spec : Specifier) : OnlyConsumes (locate spec) := by
  cases spec with
  | none => exact onlyConsumes_ok _
  | memoryOffset w dir =>
    refine .ite ?_ ?_
    · exact fetch32_onlyConsumes.bind fun _ => onlyConsumes_ok fun s => some (s.memLocation _ _, _)
    · exact fetch16_onlyConsumes.bind fun _ => onlyConsumes_ok fun s => some (s.memLocation _ _, _)
  | full w dir rm => exact resolve_onlyConsumes.bind fun _ => onlyConsumes_ok _
  | onlyExtraDigit rm => exact resolve_onlyConsumes.bind fun _ => onlyConsumes_ok _

theorem fetchImmediate_onlyConsumes (w : RegWidth) : OnlyConsumes (fetchImmediate w) := by
  cases w
  · exact fetch8_onlyConsumes.bind fun _ => onlyConsumes_ok _
  · exact fetch16_onlyConsumes.bind fun _ => onlyConsumes_ok _
  · exact fetch32_onlyConsumes.bind fun _ => onlyConsumes_ok _

/-- Immediates are found by consuming alone. -/
theorem fetchImmediates_onlyConsumes (ws : List RegWidth) : OnlyConsumes (fetchImmediates ws) := by
  induction ws with
  | nil => exact onlyConsumes_ok _
  | cons w ws ih => exact (fetchImmediate_onlyConsumes w).bind fun _ => ih.bind fun _ => onlyConsumes_ok _

end Sys2Proof.Machine
end

