-- ==== Sys2Proof/Laws/Protocol.lean ====
section
/-! SUPPORT. What each part of the operand protocol can do, said once: a check changes nothing, loads change what a read may,
stores change registers and what a write may (R259 to R265). -/

namespace Sys2Proof.Machine

/-- The check of the operand kind changes nothing and raises no PageFault. -/
theorem checkOperand_cases (rm : Option RmOperand) (loc : Option (Location × RegIdx)) (s : State) :
    checkOperand rm loc s = .ok () s ∨ checkOperand rm loc s = .fault .addressingFault ∨
      checkOperand rm loc s = .refused .registerOnlyMemoryForm ∨ checkOperand rm loc s = .refused .farPointerSplit := by
  unfold checkOperand
  split
  · exact .inr (.inl rfl)
  · exact .inr (.inl rfl)
  · exact .inr (.inr (.inl rfl))
  · exact .inr (.inr (.inr rfl))
  · exact .inl rfl

/-- Reading an operand's location changes only what a read may; its PageFault has kind Read. -/
theorem readLocation_frame (w : Width) (loc : Location) (s : State) :
    (∀ {v t}, readLocation w loc s = .ok v t → ReadFrame s t) ∧
    (∀ {x k t}, readLocation w loc s = .pageFault x k t → k = .read ∧ ReadFrame s t) := by
  cases loc with
  | register i =>
    simp only [readLocation]
    cases w.toReg? with
    | none => refine ⟨fun h => ?_, fun h => ?_⟩ <;> cases h
    | some rw =>
      refine ⟨fun h => ?_, fun h => ?_⟩ <;> cases h
      exact .refl s
  | memory seg offset linear =>
    refine ⟨fun h => ?_, fun h => ?_⟩
    · obtain ⟨_, u, h1, h2⟩ := Res.bind_eq_ok h
      cases h2
      exact (memRead_ok h1).2
    · rcases Res.bind_eq_pageFault h with h | ⟨_, _, _, h⟩
      · exact memRead_pageFault h
      · cases h

/-- Loading an operand changes only what a read may; its PageFault has kind Read. -/
theorem loadOperand_frame (w : Width) (dir : Direction) (loc : Location) (s : State) :
    (∀ {v t}, loadOperand w dir loc s = .ok v t → ReadFrame s t) ∧
    (∀ {x k t}, loadOperand w dir loc s = .pageFault x k t → k = .read ∧ ReadFrame s t) := by
  unfold loadOperand
  split_ifs
  · refine ⟨fun h => ?_, fun h => ?_⟩
    · obtain ⟨_, u, h1, h2⟩ := Res.bind_eq_ok h
      cases h2
      exact (readLocation_frame _ _ s).1 h1
    · rcases Res.bind_eq_pageFault h with h | ⟨_, _, _, h⟩
      · exact (readLocation_frame _ _ s).2 h
      · cases h
  · exact ⟨fun h => by cases h; exact .refl s, fun h => by cases h⟩

/-- Loading the r/m operand changes only what a read may; its PageFault has kind Read. -/
theorem loadRm_frame (rm : Option RmOperand) (loc : Option (Location × RegIdx)) (s : State) :
    (∀ {v t}, loadRm rm loc s = .ok v t → ReadFrame s t) ∧
    (∀ {x k t}, loadRm rm loc s = .pageFault x k t → k = .read ∧ ReadFrame s t) := by
  unfold loadRm
  split
  · exact loadOperand_frame _ _ _ s
  · exact ⟨fun h => by cases h; exact .refl s, fun h => by cases h⟩
  · exact ⟨fun h => by cases h; exact .refl s, fun h => by cases h⟩

/-- Loading the implicit operands changes only what a read may; their PageFault has kind Read. -/
theorem loadImplicits_frame (os : List ImplicitOperand) (s : State) :
    (∀ {vs t}, loadImplicits os s = .ok vs t → ReadFrame s t) ∧
    (∀ {x k t}, loadImplicits os s = .pageFault x k t → k = .read ∧ ReadFrame s t) := by
  induction os generalizing s with
  | nil => exact ⟨fun h => by cases h; exact .refl s, fun h => by cases h⟩
  | cons o os ih =>
    refine ⟨fun h => ?_, fun h => ?_⟩
    · obtain ⟨_, u, h1, h⟩ := Res.bind_eq_ok h
      obtain ⟨_, _, h2, h⟩ := Res.bind_eq_ok h
      cases h
      exact ((loadOperand_frame _ _ _ s).1 h1).trans ((ih u).1 h2)
    · rcases Res.bind_eq_pageFault h with h | ⟨_, u, h1, h⟩
      · exact (loadOperand_frame _ _ _ s).2 h
      · rcases Res.bind_eq_pageFault h with h | ⟨_, _, _, h⟩
        · exact ⟨((ih u).2 h).1, ((loadOperand_frame _ _ _ s).1 h1).trans ((ih u).2 h).2⟩
        · cases h

/-- `t` is `s` but for the general registers and what a write may change. -/
def StoreFrame (s t : State) : Prop := ∃ g, WriteFrame { s with gpr := g } t

theorem StoreFrame.refl (s : State) : StoreFrame s s := ⟨s.gpr, .refl s⟩

theorem StoreFrame.of_gpr (s : State) (g : Vector Word 8) : StoreFrame s { s with gpr := g } := ⟨g, .refl _⟩

/-- Writing an operand back changes only registers and what a write may; its PageFault has kind Write. -/
theorem writeLocation_frame (w : Width) (loc : Location) (v : Nat) (s : State) :
    (∀ {u t}, writeLocation w loc v s = .ok u t → StoreFrame s t) ∧
    (∀ {x k t}, writeLocation w loc v s = .pageFault x k t → k = .write ∧ StoreFrame s t) := by
  cases loc with
  | register i =>
    simp only [writeLocation]
    cases w.toReg? with
    | none => refine ⟨fun h => ?_, fun h => ?_⟩ <;> cases h
    | some rw =>
      refine ⟨fun h => ?_, fun h => ?_⟩ <;> cases h
      obtain ⟨g, hg⟩ := writeReg_frame rw i v s
      exact hg ▸ .of_gpr s g
  | memory seg offset linear =>
    exact ⟨fun h => ⟨s.gpr, memWrite_frame.1 h⟩, fun h => ⟨(memWrite_frame.2 h).1, s.gpr, (memWrite_frame.2 h).2⟩⟩

theorem StoreFrame.trans {s t u : State} (h1 : StoreFrame s t) (h2 : StoreFrame t u) : StoreFrame s u := by
  obtain ⟨_, _, _, _, _, _, rfl⟩ := h1
  obtain ⟨_, _, _, _, _, _, rfl⟩ := h2
  exact ⟨_, _, _, _, _, _, rfl⟩

/-- Storing an operand changes only registers and what a write may; its PageFault has kind Write. -/
theorem storeOperand_frame (w : Width) (dir : Direction) (loc : Location) (v : Nat) (s : State) :
    (∀ {u t}, storeOperand w dir loc v s = .ok u t → StoreFrame s t) ∧
    (∀ {x k t}, storeOperand w dir loc v s = .pageFault x k t → k = .write ∧ StoreFrame s t) := by
  unfold storeOperand
  split_ifs
  · exact writeLocation_frame _ _ v s
  · exact ⟨fun h => by cases h; exact .refl s, fun h => by cases h⟩

/-- Storing the r/m operand changes only registers and what a write may; its PageFault has kind Write. -/
theorem storeRm_frame (rm : Option RmOperand) (loc : Option (Location × RegIdx)) (v : Nat) (s : State) :
    (∀ {u t}, storeRm rm loc v s = .ok u t → StoreFrame s t) ∧
    (∀ {x k t}, storeRm rm loc v s = .pageFault x k t → k = .write ∧ StoreFrame s t) := by
  unfold storeRm
  split
  · exact storeOperand_frame _ _ _ v s
  · exact ⟨fun h => by cases h; exact .refl s, fun h => by cases h⟩

/-- Storing the implicit operands changes only registers and what a write may; their PageFault has kind Write. -/
theorem storeImplicits_frame (os : List ImplicitOperand) (vs : List Nat) (s : State) :
    (∀ {u t}, storeImplicits os vs s = .ok u t → StoreFrame s t) ∧
    (∀ {x k t}, storeImplicits os vs s = .pageFault x k t → k = .write ∧ StoreFrame s t) := by
  induction os generalizing vs s with
  | nil => exact ⟨fun h => by cases h; exact .refl s, fun h => by cases h⟩
  | cons o os ih =>
    cases vs with
    | nil => exact ⟨fun h => by cases h; exact .refl s, fun h => by cases h⟩
    | cons v vs =>
      refine ⟨fun h => ?_, fun h => ?_⟩
      · obtain ⟨_, u, h1, h2⟩ := Res.bind_eq_ok h
        exact ((storeOperand_frame _ _ _ v s).1 h1).trans ((ih vs u).1 h2)
      · rcases Res.bind_eq_pageFault h with h | ⟨_, u, h1, h2⟩
        · exact (storeOperand_frame _ _ _ v s).2 h
        · exact ⟨((ih vs u).2 h2).1, ((storeOperand_frame _ _ _ v s).1 h1).trans ((ih vs u).2 h2).2⟩

/-- What is stored before an operand stays: storing a list is storing its first part, then the rest (R280, R317). -/
theorem storeImplicits_append {os : List ImplicitOperand} {vs : List Nat} (h : os.length = vs.length)
    (os' : List ImplicitOperand) (vs' : List Nat) (s : State) :
    storeImplicits (os ++ os') (vs ++ vs') s = (storeImplicits os vs s).bind fun _ t => storeImplicits os' vs' t := by
  induction os generalizing vs s with
  | nil =>
    rw [List.length_eq_zero_iff.mp h.symm]
    rfl
  | cons o os ih =>
    cases vs with
    | nil => cases h
    | cons v vs =>
      simp only [List.cons_append, storeImplicits, ih (Nat.succ.inj h), Res.bind_assoc]

/-- Storing the fixed register operands changes the general registers, nothing else. -/
theorem storeFixed_frame (os : List FixedOperand) (vs : List Nat) (s : State) :
    ∃ g, storeFixed os vs s = { s with gpr := g } := by
  induction os generalizing vs s with
  | nil => exact ⟨s.gpr, rfl⟩
  | cons o os ih =>
    cases vs with
    | nil => exact ⟨s.gpr, rfl⟩
    | cons v vs =>
      simp only [storeFixed]
      split_ifs
      · obtain ⟨g, hg⟩ := writeReg_frame o.width o.index v s
        obtain ⟨g', hg'⟩ := ih vs (writeReg o.width o.index v s)
        exact ⟨g', by rw [hg', hg]⟩
      · exact ih vs s

/-- Storing the reg-field operand changes the general registers, nothing else. -/
theorem storeRegField_frame (spec : Specifier) (loc : Option (Location × RegIdx)) (v : Nat) (s : State) :
    ∃ g, storeRegField spec loc v s = { s with gpr := g } := by
  unfold storeRegField
  split
  · split_ifs
    · exact writeReg_frame _ _ v s
    · exact ⟨s.gpr, rfl⟩
  · exact ⟨s.gpr, rfl⟩

/-- `t` is `s` but for what the maintenance operations may change: directory base, A20 mask, translation cache. -/
def MaintenanceFrame (s t : State) : Prop := ∃ b m c, t = { s with pdBase := b, a20Mask := m, tcache := c }

theorem MaintenanceFrame.refl (s : State) : MaintenanceFrame s s := ⟨_, _, _, rfl⟩

theorem MaintenanceFrame.trans {s t u : State} (h1 : MaintenanceFrame s t) (h2 : MaintenanceFrame t u) :
    MaintenanceFrame s u := by
  obtain ⟨_, _, _, rfl⟩ := h1
  obtain ⟨_, _, _, rfl⟩ := h2
  exact ⟨_, _, _, rfl⟩

/-- A maintenance operation completes, leaving the cache or emptying it, or is a misaligned `WritePdBase`, refused. -/
theorem runMaintenance_cases (op : MaintenanceOp) (s : State) :
    (∃ v, op = .writePdBase v ∧ v &&& 0xFFF#32 = 0#32 ∧ runMaintenance op s = .ok () { s with pdBase := v, tcache := [] }) ∨
    (∃ v, op = .writePdBase v ∧ v &&& 0xFFF#32 ≠ 0#32 ∧ runMaintenance op s = .refused .pdBaseMisaligned) ∨
    (op = .flushCache ∧ runMaintenance op s = .ok () { s with tcache := [] }) ∨
    (∃ b, op = .setA20 b ∧ runMaintenance op s = .ok () { s with a20Mask := a20MaskOf b }) := by
  cases op with
  | writePdBase v =>
    by_cases h : v &&& 0xFFF#32 = 0#32
    · exact .inl ⟨v, rfl, h, (if_pos h).trans rfl⟩
    · exact .inr (.inl ⟨v, rfl, h, if_neg h⟩)
  | flushCache => exact .inr (.inr (.inl ⟨rfl, rfl⟩))
  | setA20 b => exact .inr (.inr (.inr ⟨b, rfl, rfl⟩))

/-- Maintenance operations change only directory base, A20 mask and cache, and raise no PageFault and no fault. -/
theorem runMaintenances_frame (ops : List MaintenanceOp) (s : State) :
    (∃ t, runMaintenances ops s = .ok () t ∧ MaintenanceFrame s t) ∨ runMaintenances ops s = .refused .pdBaseMisaligned := by
  induction ops generalizing s with
  | nil => exact .inl ⟨s, rfl, .refl s⟩
  | cons op ops ih =>
    obtain ⟨t, h, f⟩ | h : (∃ t, runMaintenance op s = .ok () t ∧ MaintenanceFrame s t) ∨
        runMaintenance op s = .refused .pdBaseMisaligned := by
      obtain ⟨v, -, -, h⟩ | ⟨v, -, -, h⟩ | ⟨-, h⟩ | ⟨b, -, h⟩ := runMaintenance_cases op s
      · exact .inl ⟨_, h, _, _, _, rfl⟩
      · exact .inr h
      · exact .inl ⟨_, h, _, _, _, rfl⟩
      · exact .inl ⟨_, h, _, _, _, rfl⟩
    · simp only [runMaintenances, h, Res.bind_ok]
      obtain ⟨u, hu, g⟩ | hu := ih t
      · exact .inl ⟨u, hu, f.trans g⟩
      · exact .inr hu
    · exact .inr (by simp only [runMaintenances, h, Res.bind_refused])

/-- Operations that clear nothing, `SetA20` alone, leave directory base and cache. -/
theorem runMaintenances_setA20 {ops : List MaintenanceOp} (h : ∀ op ∈ ops, ∃ b, op = .setA20 b) (s : State) :
    ∃ m, runMaintenances ops s = .ok () { s with a20Mask := m } := by
  induction ops generalizing s with
  | nil => exact ⟨s.a20Mask, rfl⟩
  | cons op ops ih =>
    obtain ⟨b, rfl⟩ := h _ (.head _)
    exact ih (fun o ho => h o (.tail _ ho)) _

/-- What the handler writes by itself: general registers and its flags word. -/
theorem applyWrites_frame (h : HandlerAnswer) (s : State) : ∃ g, applyWrites h s = { s with gpr := g, flags := h.flags } := by
  have fold : ∀ (ws : List (RegIdx × Word)) (t : State),
      ∃ g, ws.foldl (fun t w => t.setGpr32 w.1 w.2) t = { t with gpr := g } := by
    intro ws
    induction ws with
    | nil => exact fun t => ⟨t.gpr, rfl⟩
    | cons w ws ih =>
      intro t
      obtain ⟨g, hg⟩ := ih (t.setGpr32 w.1 w.2)
      exact ⟨g, hg⟩
  obtain ⟨g, hg⟩ := fold h.gprWrites s
  exact ⟨g, by simp only [applyWrites, hg]; rfl⟩

/-- The handler completes, changing general registers, flags, directory base, A20 mask and cache and nothing else, or is
refused for a misaligned `WritePdBase`. -/
theorem applyHandler_frame (h : HandlerAnswer) (s : State) :
    (∃ t g, MaintenanceFrame s t ∧ applyHandler h s = .ok () { t with gpr := g, flags := h.flags }) ∨
      applyHandler h s = .refused .pdBaseMisaligned := by
  obtain ⟨t, ht, f⟩ | ht := runMaintenances_frame h.operations s
  · obtain ⟨g, hg⟩ := applyWrites_frame h t
    exact .inl ⟨t, g, f, by simp only [applyHandler, ht, Res.bind_ok, hg]⟩
  · exact .inr (by simp only [applyHandler, ht, Res.bind_refused])

end Sys2Proof.Machine
end

