-- ==== Sys2Proof/Tests/Slice0.lean ====
section
/-! SUPPORT. Tests of the model: ill-formed terms refused, every row's word decoded, one step on small states. Expected results
come from spec/: the encodings of 30_encoding.md and of the form rules, the vectors of 95_test_vectors.md (cited by section),
the examples of the rules (cited by number). After them, a witness for the hypotheses of every statement. -/

namespace Sys2Proof.Tests

open Sys2Proof Sys2Proof.Machine Sys2Proof.Claims

/-! ### WellFormed refuses (R250, R256, R257) -/

theorem test_wf_memRead_count_zero : Instr.wellFormed { PortArguments.idle with count := 0 } .memRead = false := by decide
theorem test_wf_memRead_kind_write : Instr.wellFormed { PortArguments.idle with kind := .write } .memRead = false := by decide
theorem test_wf_memWrite_count_zero : Instr.wellFormed { PortArguments.idle with count := 0 } .memWrite = false := by decide
theorem test_wf_memWrite_value_too_wide :
    Instr.wellFormed { PortArguments.idle with count := 2, value := 0x10000 } .memWrite = false := by decide
theorem test_wf_writePdBase_value_too_wide :
    Instr.wellFormed { PortArguments.idle with value := 0x100000000 } .writePdBase = false := by decide
theorem test_wf_accepts :
    Instr.wellFormed { PortArguments.idle with count := 2, value := 0xFFFF } .memWrite = true ∧
    Instr.wellFormed { PortArguments.idle with kind := .instructionFetch } .memRead = true := by decide

/-! ### Words

Every byte is written out from the encodings: ModR/M = mod reg rm (R91), SIB = scale index base (R93), the match values of the
form rules. The reg field is 5 (`.. 101 ...`) and the scale 2 (`10 ... ...`) throughout, so that a misplaced field shows. -/

def bytes (l : List Nat) : List Byte := l.map (BitVec.ofNat 8)

/-- Equality as a test. -/
def is {α : Type} [DecidableEq α] (x y : α) : Bool := decide (x = y)

/-- The step answers exactly this next state. -/
def nextIs (r : StepResult) (t : State) : Bool :=
  match r with
  | .next u => decide (u = t)
  | .fault _ => false
  | .refused _ => false

def faultIs (r : StepResult) (f : Fault) : Bool :=
  match r with
  | .next _ => false
  | .fault g => decide (g = f)
  | .refused _ => false

def refusalIs (r : StepResult) (f : Refusal) : Bool :=
  match r with
  | .next _ => false
  | .fault _ => false
  | .refused g => decide (g = f)

def reads (d : Decoded) (i : Instr) : Bool := decide (d = .ok i [])

/-- R121 to R128. -/
theorem test_decode_a16_mod0 :
    reads (decodeSpecifier false (bytes [0x28])) (.a16M0Rm0 5) ∧
    reads (decodeSpecifier false (bytes [0x29])) (.a16M0Rm1 5) ∧
    reads (decodeSpecifier false (bytes [0x2A])) (.a16M0Rm2 5) ∧
    reads (decodeSpecifier false (bytes [0x2B])) (.a16M0Rm3 5) ∧
    reads (decodeSpecifier false (bytes [0x2C])) (.a16M0Rm4 5) ∧
    reads (decodeSpecifier false (bytes [0x2D])) (.a16M0Rm5 5) ∧
    reads (decodeSpecifier false (bytes [0x2E, 0x34, 0x12])) (.a16M0Rm6 5 0x1234) ∧
    reads (decodeSpecifier false (bytes [0x2F])) (.a16M0Rm7 5) := by decide

/-- R129 to R136. -/
theorem test_decode_a16_mod1 :
    reads (decodeSpecifier false (bytes [0x68, 0xF0])) (.a16M1Rm0 5 0xF0) ∧
    reads (decodeSpecifier false (bytes [0x69, 0xF0])) (.a16M1Rm1 5 0xF0) ∧
    reads (decodeSpecifier false (bytes [0x6A, 0xF0])) (.a16M1Rm2 5 0xF0) ∧
    reads (decodeSpecifier false (bytes [0x6B, 0xF0])) (.a16M1Rm3 5 0xF0) ∧
    reads (decodeSpecifier false (bytes [0x6C, 0xF0])) (.a16M1Rm4 5 0xF0) ∧
    reads (decodeSpecifier false (bytes [0x6D, 0xF0])) (.a16M1Rm5 5 0xF0) ∧
    reads (decodeSpecifier false (bytes [0x6E, 0xF0])) (.a16M1Rm6 5 0xF0) ∧
    reads (decodeSpecifier false (bytes [0x6F, 0xF0])) (.a16M1Rm7 5 0xF0) := by decide

/-- R137 to R144. -/
theorem test_decode_a16_mod2 :
    reads (decodeSpecifier false (bytes [0xA8, 0x34, 0x12])) (.a16M2Rm0 5 0x1234) ∧
    reads (decodeSpecifier false (bytes [0xA9, 0x34, 0x12])) (.a16M2Rm1 5 0x1234) ∧
    reads (decodeSpecifier false (bytes [0xAA, 0x34, 0x12])) (.a16M2Rm2 5 0x1234) ∧
    reads (decodeSpecifier false (bytes [0xAB, 0x34, 0x12])) (.a16M2Rm3 5 0x1234) ∧
    reads (decodeSpecifier false (bytes [0xAC, 0x34, 0x12])) (.a16M2Rm4 5 0x1234) ∧
    reads (decodeSpecifier false (bytes [0xAD, 0x34, 0x12])) (.a16M2Rm5 5 0x1234) ∧
    reads (decodeSpecifier false (bytes [0xAE, 0x34, 0x12])) (.a16M2Rm6 5 0x1234) ∧
    reads (decodeSpecifier false (bytes [0xAF, 0x34, 0x12])) (.a16M2Rm7 5 0x1234) := by decide

/-- R145, R172; 0xD8 is AEON's own byte, reg = 3 and rm = 0. -/
theorem test_decode_registers :
    reads (decodeSpecifier false (bytes [0xD8])) (.a16Reg 3 0) ∧
    reads (decodeSpecifier true (bytes [0xD8])) (.a32Reg 3 0) ∧
    reads (decodeSpecifier true (bytes [0xEC])) (.a32Reg 5 4) := by decide

/-- R151 to R157. -/
theorem test_decode_a32_mod0 :
    reads (decodeSpecifier true (bytes [0x28])) (.a32M0Rm0 5) ∧
    reads (decodeSpecifier true (bytes [0x29])) (.a32M0Rm1 5) ∧
    reads (decodeSpecifier true (bytes [0x2A])) (.a32M0Rm2 5) ∧
    reads (decodeSpecifier true (bytes [0x2B])) (.a32M0Rm3 5) ∧
    reads (decodeSpecifier true (bytes [0x2D, 0x78, 0x56, 0x34, 0x12])) (.a32M0Rm5 5 0x12345678) ∧
    reads (decodeSpecifier true (bytes [0x2E])) (.a32M0Rm6 5) ∧
    reads (decodeSpecifier true (bytes [0x2F])) (.a32M0Rm7 5) := by decide

/-- R158 to R164. -/
theorem test_decode_a32_mod1 :
    reads (decodeSpecifier true (bytes [0x68, 0xF0])) (.a32M1Rm0 5 0xF0) ∧
    reads (decodeSpecifier true (bytes [0x69, 0xF0])) (.a32M1Rm1 5 0xF0) ∧
    reads (decodeSpecifier true (bytes [0x6A, 0xF0])) (.a32M1Rm2 5 0xF0) ∧
    reads (decodeSpecifier true (bytes [0x6B, 0xF0])) (.a32M1Rm3 5 0xF0) ∧
    reads (decodeSpecifier true (bytes [0x6D, 0xF0])) (.a32M1Rm5 5 0xF0) ∧
    reads (decodeSpecifier true (bytes [0x6E, 0xF0])) (.a32M1Rm6 5 0xF0) ∧
    reads (decodeSpecifier true (bytes [0x6F, 0xF0])) (.a32M1Rm7 5 0xF0) := by decide

/-- R165 to R171. -/
theorem test_decode_a32_mod2 :
    reads (decodeSpecifier true (bytes [0xA8, 0x78, 0x56, 0x34, 0x12])) (.a32M2Rm0 5 0x12345678) ∧
    reads (decodeSpecifier true (bytes [0xA9, 0x78, 0x56, 0x34, 0x12])) (.a32M2Rm1 5 0x12345678) ∧
    reads (decodeSpecifier true (bytes [0xAA, 0x78, 0x56, 0x34, 0x12])) (.a32M2Rm2 5 0x12345678) ∧
    reads (decodeSpecifier true (bytes [0xAB, 0x78, 0x56, 0x34, 0x12])) (.a32M2Rm3 5 0x12345678) ∧
    reads (decodeSpecifier true (bytes [0xAD, 0x78, 0x56, 0x34, 0x12])) (.a32M2Rm5 5 0x12345678) ∧
    reads (decodeSpecifier true (bytes [0xAE, 0x78, 0x56, 0x34, 0x12])) (.a32M2Rm6 5 0x12345678) ∧
    reads (decodeSpecifier true (bytes [0xAF, 0x78, 0x56, 0x34, 0x12])) (.a32M2Rm7 5 0x12345678) := by decide

/-- R173: matches 0x04, 0x44, 0x84 under mask 0xC7. -/
theorem test_decode_escapes :
    reads (decode .m32 (bytes [0x2C])) (.a32SibM0 5) ∧
    reads (decode .m32 (bytes [0x6C])) (.a32SibM1 5) ∧
    reads (decode .m32 (bytes [0xAC])) (.a32SibM2 5) := by decide

/-- R183, R184. -/
theorem test_decode_sib_mod0_base0 :
    reads (decodeSpecifier true (bytes [0x2C, 0x80])) (.a32SibM0B0I0 5 2) ∧
    reads (decodeSpecifier true (bytes [0x2C, 0x88])) (.a32SibM0B0I1 5 2) ∧
    reads (decodeSpecifier true (bytes [0x2C, 0x90])) (.a32SibM0B0I2 5 2) ∧
    reads (decodeSpecifier true (bytes [0x2C, 0x98])) (.a32SibM0B0I3 5 2) ∧
    reads (decodeSpecifier true (bytes [0x2C, 0xA0])) (.a32SibM0B0I4 5 2) ∧
    reads (decodeSpecifier true (bytes [0x2C, 0xA8])) (.a32SibM0B0I5 5 2) ∧
    reads (decodeSpecifier true (bytes [0x2C, 0xB0])) (.a32SibM0B0I6 5 2) ∧
    reads (decodeSpecifier true (bytes [0x2C, 0xB8])) (.a32SibM0B0I7 5 2) := by decide

/-- R183, R184. -/
theorem test_decode_sib_mod0_base1 :
    reads (decodeSpecifier true (bytes [0x2C, 0x81])) (.a32SibM0B1I0 5 2) ∧
    reads (decodeSpecifier true (bytes [0x2C, 0x89])) (.a32SibM0B1I1 5 2) ∧
    reads (decodeSpecifier true (bytes [0x2C, 0x91])) (.a32SibM0B1I2 5 2) ∧
    reads (decodeSpecifier true (bytes [0x2C, 0x99])) (.a32SibM0B1I3 5 2) ∧
    reads (decodeSpecifier true (bytes [0x2C, 0xA1])) (.a32SibM0B1I4 5 2) ∧
    reads (decodeSpecifier true (bytes [0x2C, 0xA9])) (.a32SibM0B1I5 5 2) ∧
    reads (decodeSpecifier true (bytes [0x2C, 0xB1])) (.a32SibM0B1I6 5 2) ∧
    reads (decodeSpecifier true (bytes [0x2C, 0xB9])) (.a32SibM0B1I7 5 2) := by decide

/-- R183, R184. -/
theorem test_decode_sib_mod0_base2 :
    reads (decodeSpecifier true (bytes [0x2C, 0x82])) (.a32SibM0B2I0 5 2) ∧
    reads (decodeSpecifier true (bytes [0x2C, 0x8A])) (.a32SibM0B2I1 5 2) ∧
    reads (decodeSpecifier true (bytes [0x2C, 0x92])) (.a32SibM0B2I2 5 2) ∧
    reads (decodeSpecifier true (bytes [0x2C, 0x9A])) (.a32SibM0B2I3 5 2) ∧
    reads (decodeSpecifier true (bytes [0x2C, 0xA2])) (.a32SibM0B2I4 5 2) ∧
    reads (decodeSpecifier true (bytes [0x2C, 0xAA])) (.a32SibM0B2I5 5 2) ∧
    reads (decodeSpecifier true (bytes [0x2C, 0xB2])) (.a32SibM0B2I6 5 2) ∧
    reads (decodeSpecifier true (bytes [0x2C, 0xBA])) (.a32SibM0B2I7 5 2) := by decide

/-- R183, R184. -/
theorem test_decode_sib_mod0_base3 :
    reads (decodeSpecifier true (bytes [0x2C, 0x83])) (.a32SibM0B3I0 5 2) ∧
    reads (decodeSpecifier true (bytes [0x2C, 0x8B])) (.a32SibM0B3I1 5 2) ∧
    reads (decodeSpecifier true (bytes [0x2C, 0x93])) (.a32SibM0B3I2 5 2) ∧
    reads (decodeSpecifier true (bytes [0x2C, 0x9B])) (.a32SibM0B3I3 5 2) ∧
    reads (decodeSpecifier true (bytes [0x2C, 0xA3])) (.a32SibM0B3I4 5 2) ∧
    reads (decodeSpecifier true (bytes [0x2C, 0xAB])) (.a32SibM0B3I5 5 2) ∧
    reads (decodeSpecifier true (bytes [0x2C, 0xB3])) (.a32SibM0B3I6 5 2) ∧
    reads (decodeSpecifier true (bytes [0x2C, 0xBB])) (.a32SibM0B3I7 5 2) := by decide

/-- R183, R184. -/
theorem test_decode_sib_mod0_base4 :
    reads (decodeSpecifier true (bytes [0x2C, 0x84])) (.a32SibM0B4I0 5 2) ∧
    reads (decodeSpecifier true (bytes [0x2C, 0x8C])) (.a32SibM0B4I1 5 2) ∧
    reads (decodeSpecifier true (bytes [0x2C, 0x94])) (.a32SibM0B4I2 5 2) ∧
    reads (decodeSpecifier true (bytes [0x2C, 0x9C])) (.a32SibM0B4I3 5 2) ∧
    reads (decodeSpecifier true (bytes [0x2C, 0xA4])) (.a32SibM0B4I4 5 2) ∧
    reads (decodeSpecifier true (bytes [0x2C, 0xAC])) (.a32SibM0B4I5 5 2) ∧
    reads (decodeSpecifier true (bytes [0x2C, 0xB4])) (.a32SibM0B4I6 5 2) ∧
    reads (decodeSpecifier true (bytes [0x2C, 0xBC])) (.a32SibM0B4I7 5 2) := by decide

/-- R185, R186. -/
theorem test_decode_sib_mod0_base5 :
    reads (decodeSpecifier true (bytes [0x2C, 0x85, 0x78, 0x56, 0x34, 0x12])) (.a32SibM0B5I0 5 2 0x12345678) ∧
    reads (decodeSpecifier true (bytes [0x2C, 0x8D, 0x78, 0x56, 0x34, 0x12])) (.a32SibM0B5I1 5 2 0x12345678) ∧
    reads (decodeSpecifier true (bytes [0x2C, 0x95, 0x78, 0x56, 0x34, 0x12])) (.a32SibM0B5I2 5 2 0x12345678) ∧
    reads (decodeSpecifier true (bytes [0x2C, 0x9D, 0x78, 0x56, 0x34, 0x12])) (.a32SibM0B5I3 5 2 0x12345678) ∧
    reads (decodeSpecifier true (bytes [0x2C, 0xA5, 0x78, 0x56, 0x34, 0x12])) (.a32SibM0B5I4 5 2 0x12345678) ∧
    reads (decodeSpecifier true (bytes [0x2C, 0xAD, 0x78, 0x56, 0x34, 0x12])) (.a32SibM0B5I5 5 2 0x12345678) ∧
    reads (decodeSpecifier true (bytes [0x2C, 0xB5, 0x78, 0x56, 0x34, 0x12])) (.a32SibM0B5I6 5 2 0x12345678) ∧
    reads (decodeSpecifier true (bytes [0x2C, 0xBD, 0x78, 0x56, 0x34, 0x12])) (.a32SibM0B5I7 5 2 0x12345678) := by decide

/-- R183, R184. -/
theorem test_decode_sib_mod0_base6 :
    reads (decodeSpecifier true (bytes [0x2C, 0x86])) (.a32SibM0B6I0 5 2) ∧
    reads (decodeSpecifier true (bytes [0x2C, 0x8E])) (.a32SibM0B6I1 5 2) ∧
    reads (decodeSpecifier true (bytes [0x2C, 0x96])) (.a32SibM0B6I2 5 2) ∧
    reads (decodeSpecifier true (bytes [0x2C, 0x9E])) (.a32SibM0B6I3 5 2) ∧
    reads (decodeSpecifier true (bytes [0x2C, 0xA6])) (.a32SibM0B6I4 5 2) ∧
    reads (decodeSpecifier true (bytes [0x2C, 0xAE])) (.a32SibM0B6I5 5 2) ∧
    reads (decodeSpecifier true (bytes [0x2C, 0xB6])) (.a32SibM0B6I6 5 2) ∧
    reads (decodeSpecifier true (bytes [0x2C, 0xBE])) (.a32SibM0B6I7 5 2) := by decide

/-- R183, R184. -/
theorem test_decode_sib_mod0_base7 :
    reads (decodeSpecifier true (bytes [0x2C, 0x87])) (.a32SibM0B7I0 5 2) ∧
    reads (decodeSpecifier true (bytes [0x2C, 0x8F])) (.a32SibM0B7I1 5 2) ∧
    reads (decodeSpecifier true (bytes [0x2C, 0x97])) (.a32SibM0B7I2 5 2) ∧
    reads (decodeSpecifier true (bytes [0x2C, 0x9F])) (.a32SibM0B7I3 5 2) ∧
    reads (decodeSpecifier true (bytes [0x2C, 0xA7])) (.a32SibM0B7I4 5 2) ∧
    reads (decodeSpecifier true (bytes [0x2C, 0xAF])) (.a32SibM0B7I5 5 2) ∧
    reads (decodeSpecifier true (bytes [0x2C, 0xB7])) (.a32SibM0B7I6 5 2) ∧
    reads (decodeSpecifier true (bytes [0x2C, 0xBF])) (.a32SibM0B7I7 5 2) := by decide

/-- R187, R188. -/
theorem test_decode_sib_mod1_base0 :
    reads (decodeSpecifier true (bytes [0x6C, 0x80, 0xF0])) (.a32SibM1B0I0 5 2 0xF0) ∧
    reads (decodeSpecifier true (bytes [0x6C, 0x88, 0xF0])) (.a32SibM1B0I1 5 2 0xF0) ∧
    reads (decodeSpecifier true (bytes [0x6C, 0x90, 0xF0])) (.a32SibM1B0I2 5 2 0xF0) ∧
    reads (decodeSpecifier true (bytes [0x6C, 0x98, 0xF0])) (.a32SibM1B0I3 5 2 0xF0) ∧
    reads (decodeSpecifier true (bytes [0x6C, 0xA0, 0xF0])) (.a32SibM1B0I4 5 2 0xF0) ∧
    reads (decodeSpecifier true (bytes [0x6C, 0xA8, 0xF0])) (.a32SibM1B0I5 5 2 0xF0) ∧
    reads (decodeSpecifier true (bytes [0x6C, 0xB0, 0xF0])) (.a32SibM1B0I6 5 2 0xF0) ∧
    reads (decodeSpecifier true (bytes [0x6C, 0xB8, 0xF0])) (.a32SibM1B0I7 5 2 0xF0) := by decide

/-- R187, R188. -/
theorem test_decode_sib_mod1_base1 :
    reads (decodeSpecifier true (bytes [0x6C, 0x81, 0xF0])) (.a32SibM1B1I0 5 2 0xF0) ∧
    reads (decodeSpecifier true (bytes [0x6C, 0x89, 0xF0])) (.a32SibM1B1I1 5 2 0xF0) ∧
    reads (decodeSpecifier true (bytes [0x6C, 0x91, 0xF0])) (.a32SibM1B1I2 5 2 0xF0) ∧
    reads (decodeSpecifier true (bytes [0x6C, 0x99, 0xF0])) (.a32SibM1B1I3 5 2 0xF0) ∧
    reads (decodeSpecifier true (bytes [0x6C, 0xA1, 0xF0])) (.a32SibM1B1I4 5 2 0xF0) ∧
    reads (decodeSpecifier true (bytes [0x6C, 0xA9, 0xF0])) (.a32SibM1B1I5 5 2 0xF0) ∧
    reads (decodeSpecifier true (bytes [0x6C, 0xB1, 0xF0])) (.a32SibM1B1I6 5 2 0xF0) ∧
    reads (decodeSpecifier true (bytes [0x6C, 0xB9, 0xF0])) (.a32SibM1B1I7 5 2 0xF0) := by decide

/-- R187, R188. -/
theorem test_decode_sib_mod1_base2 :
    reads (decodeSpecifier true (bytes [0x6C, 0x82, 0xF0])) (.a32SibM1B2I0 5 2 0xF0) ∧
    reads (decodeSpecifier true (bytes [0x6C, 0x8A, 0xF0])) (.a32SibM1B2I1 5 2 0xF0) ∧
    reads (decodeSpecifier true (bytes [0x6C, 0x92, 0xF0])) (.a32SibM1B2I2 5 2 0xF0) ∧
    reads (decodeSpecifier true (bytes [0x6C, 0x9A, 0xF0])) (.a32SibM1B2I3 5 2 0xF0) ∧
    reads (decodeSpecifier true (bytes [0x6C, 0xA2, 0xF0])) (.a32SibM1B2I4 5 2 0xF0) ∧
    reads (decodeSpecifier true (bytes [0x6C, 0xAA, 0xF0])) (.a32SibM1B2I5 5 2 0xF0) ∧
    reads (decodeSpecifier true (bytes [0x6C, 0xB2, 0xF0])) (.a32SibM1B2I6 5 2 0xF0) ∧
    reads (decodeSpecifier true (bytes [0x6C, 0xBA, 0xF0])) (.a32SibM1B2I7 5 2 0xF0) := by decide

/-- R187, R188. -/
theorem test_decode_sib_mod1_base3 :
    reads (decodeSpecifier true (bytes [0x6C, 0x83, 0xF0])) (.a32SibM1B3I0 5 2 0xF0) ∧
    reads (decodeSpecifier true (bytes [0x6C, 0x8B, 0xF0])) (.a32SibM1B3I1 5 2 0xF0) ∧
    reads (decodeSpecifier true (bytes [0x6C, 0x93, 0xF0])) (.a32SibM1B3I2 5 2 0xF0) ∧
    reads (decodeSpecifier true (bytes [0x6C, 0x9B, 0xF0])) (.a32SibM1B3I3 5 2 0xF0) ∧
    reads (decodeSpecifier true (bytes [0x6C, 0xA3, 0xF0])) (.a32SibM1B3I4 5 2 0xF0) ∧
    reads (decodeSpecifier true (bytes [0x6C, 0xAB, 0xF0])) (.a32SibM1B3I5 5 2 0xF0) ∧
    reads (decodeSpecifier true (bytes [0x6C, 0xB3, 0xF0])) (.a32SibM1B3I6 5 2 0xF0) ∧
    reads (decodeSpecifier true (bytes [0x6C, 0xBB, 0xF0])) (.a32SibM1B3I7 5 2 0xF0) := by decide

/-- R187, R188. -/
theorem test_decode_sib_mod1_base4 :
    reads (decodeSpecifier true (bytes [0x6C, 0x84, 0xF0])) (.a32SibM1B4I0 5 2 0xF0) ∧
    reads (decodeSpecifier true (bytes [0x6C, 0x8C, 0xF0])) (.a32SibM1B4I1 5 2 0xF0) ∧
    reads (decodeSpecifier true (bytes [0x6C, 0x94, 0xF0])) (.a32SibM1B4I2 5 2 0xF0) ∧
    reads (decodeSpecifier true (bytes [0x6C, 0x9C, 0xF0])) (.a32SibM1B4I3 5 2 0xF0) ∧
    reads (decodeSpecifier true (bytes [0x6C, 0xA4, 0xF0])) (.a32SibM1B4I4 5 2 0xF0) ∧
    reads (decodeSpecifier true (bytes [0x6C, 0xAC, 0xF0])) (.a32SibM1B4I5 5 2 0xF0) ∧
    reads (decodeSpecifier true (bytes [0x6C, 0xB4, 0xF0])) (.a32SibM1B4I6 5 2 0xF0) ∧
    reads (decodeSpecifier true (bytes [0x6C, 0xBC, 0xF0])) (.a32SibM1B4I7 5 2 0xF0) := by decide

/-- R187, R188. -/
theorem test_decode_sib_mod1_base5 :
    reads (decodeSpecifier true (bytes [0x6C, 0x85, 0xF0])) (.a32SibM1B5I0 5 2 0xF0) ∧
    reads (decodeSpecifier true (bytes [0x6C, 0x8D, 0xF0])) (.a32SibM1B5I1 5 2 0xF0) ∧
    reads (decodeSpecifier true (bytes [0x6C, 0x95, 0xF0])) (.a32SibM1B5I2 5 2 0xF0) ∧
    reads (decodeSpecifier true (bytes [0x6C, 0x9D, 0xF0])) (.a32SibM1B5I3 5 2 0xF0) ∧
    reads (decodeSpecifier true (bytes [0x6C, 0xA5, 0xF0])) (.a32SibM1B5I4 5 2 0xF0) ∧
    reads (decodeSpecifier true (bytes [0x6C, 0xAD, 0xF0])) (.a32SibM1B5I5 5 2 0xF0) ∧
    reads (decodeSpecifier true (bytes [0x6C, 0xB5, 0xF0])) (.a32SibM1B5I6 5 2 0xF0) ∧
    reads (decodeSpecifier true (bytes [0x6C, 0xBD, 0xF0])) (.a32SibM1B5I7 5 2 0xF0) := by decide

/-- R187, R188. -/
theorem test_decode_sib_mod1_base6 :
    reads (decodeSpecifier true (bytes [0x6C, 0x86, 0xF0])) (.a32SibM1B6I0 5 2 0xF0) ∧
    reads (decodeSpecifier true (bytes [0x6C, 0x8E, 0xF0])) (.a32SibM1B6I1 5 2 0xF0) ∧
    reads (decodeSpecifier true (bytes [0x6C, 0x96, 0xF0])) (.a32SibM1B6I2 5 2 0xF0) ∧
    reads (decodeSpecifier true (bytes [0x6C, 0x9E, 0xF0])) (.a32SibM1B6I3 5 2 0xF0) ∧
    reads (decodeSpecifier true (bytes [0x6C, 0xA6, 0xF0])) (.a32SibM1B6I4 5 2 0xF0) ∧
    reads (decodeSpecifier true (bytes [0x6C, 0xAE, 0xF0])) (.a32SibM1B6I5 5 2 0xF0) ∧
    reads (decodeSpecifier true (bytes [0x6C, 0xB6, 0xF0])) (.a32SibM1B6I6 5 2 0xF0) ∧
    reads (decodeSpecifier true (bytes [0x6C, 0xBE, 0xF0])) (.a32SibM1B6I7 5 2 0xF0) := by decide

/-- R187, R188. -/
theorem test_decode_sib_mod1_base7 :
    reads (decodeSpecifier true (bytes [0x6C, 0x87, 0xF0])) (.a32SibM1B7I0 5 2 0xF0) ∧
    reads (decodeSpecifier true (bytes [0x6C, 0x8F, 0xF0])) (.a32SibM1B7I1 5 2 0xF0) ∧
    reads (decodeSpecifier true (bytes [0x6C, 0x97, 0xF0])) (.a32SibM1B7I2 5 2 0xF0) ∧
    reads (decodeSpecifier true (bytes [0x6C, 0x9F, 0xF0])) (.a32SibM1B7I3 5 2 0xF0) ∧
    reads (decodeSpecifier true (bytes [0x6C, 0xA7, 0xF0])) (.a32SibM1B7I4 5 2 0xF0) ∧
    reads (decodeSpecifier true (bytes [0x6C, 0xAF, 0xF0])) (.a32SibM1B7I5 5 2 0xF0) ∧
    reads (decodeSpecifier true (bytes [0x6C, 0xB7, 0xF0])) (.a32SibM1B7I6 5 2 0xF0) ∧
    reads (decodeSpecifier true (bytes [0x6C, 0xBF, 0xF0])) (.a32SibM1B7I7 5 2 0xF0) := by decide

/-- R189, R190. -/
theorem test_decode_sib_mod2_base0 :
    reads (decodeSpecifier true (bytes [0xAC, 0x80, 0x78, 0x56, 0x34, 0x12])) (.a32SibM2B0I0 5 2 0x12345678) ∧
    reads (decodeSpecifier true (bytes [0xAC, 0x88, 0x78, 0x56, 0x34, 0x12])) (.a32SibM2B0I1 5 2 0x12345678) ∧
    reads (decodeSpecifier true (bytes [0xAC, 0x90, 0x78, 0x56, 0x34, 0x12])) (.a32SibM2B0I2 5 2 0x12345678) ∧
    reads (decodeSpecifier true (bytes [0xAC, 0x98, 0x78, 0x56, 0x34, 0x12])) (.a32SibM2B0I3 5 2 0x12345678) ∧
    reads (decodeSpecifier true (bytes [0xAC, 0xA0, 0x78, 0x56, 0x34, 0x12])) (.a32SibM2B0I4 5 2 0x12345678) ∧
    reads (decodeSpecifier true (bytes [0xAC, 0xA8, 0x78, 0x56, 0x34, 0x12])) (.a32SibM2B0I5 5 2 0x12345678) ∧
    reads (decodeSpecifier true (bytes [0xAC, 0xB0, 0x78, 0x56, 0x34, 0x12])) (.a32SibM2B0I6 5 2 0x12345678) ∧
    reads (decodeSpecifier true (bytes [0xAC, 0xB8, 0x78, 0x56, 0x34, 0x12])) (.a32SibM2B0I7 5 2 0x12345678) := by decide

/-- R189, R190. -/
theorem test_decode_sib_mod2_base1 :
    reads (decodeSpecifier true (bytes [0xAC, 0x81, 0x78, 0x56, 0x34, 0x12])) (.a32SibM2B1I0 5 2 0x12345678) ∧
    reads (decodeSpecifier true (bytes [0xAC, 0x89, 0x78, 0x56, 0x34, 0x12])) (.a32SibM2B1I1 5 2 0x12345678) ∧
    reads (decodeSpecifier true (bytes [0xAC, 0x91, 0x78, 0x56, 0x34, 0x12])) (.a32SibM2B1I2 5 2 0x12345678) ∧
    reads (decodeSpecifier true (bytes [0xAC, 0x99, 0x78, 0x56, 0x34, 0x12])) (.a32SibM2B1I3 5 2 0x12345678) ∧
    reads (decodeSpecifier true (bytes [0xAC, 0xA1, 0x78, 0x56, 0x34, 0x12])) (.a32SibM2B1I4 5 2 0x12345678) ∧
    reads (decodeSpecifier true (bytes [0xAC, 0xA9, 0x78, 0x56, 0x34, 0x12])) (.a32SibM2B1I5 5 2 0x12345678) ∧
    reads (decodeSpecifier true (bytes [0xAC, 0xB1, 0x78, 0x56, 0x34, 0x12])) (.a32SibM2B1I6 5 2 0x12345678) ∧
    reads (decodeSpecifier true (bytes [0xAC, 0xB9, 0x78, 0x56, 0x34, 0x12])) (.a32SibM2B1I7 5 2 0x12345678) := by decide

/-- R189, R190. -/
theorem test_decode_sib_mod2_base2 :
    reads (decodeSpecifier true (bytes [0xAC, 0x82, 0x78, 0x56, 0x34, 0x12])) (.a32SibM2B2I0 5 2 0x12345678) ∧
    reads (decodeSpecifier true (bytes [0xAC, 0x8A, 0x78, 0x56, 0x34, 0x12])) (.a32SibM2B2I1 5 2 0x12345678) ∧
    reads (decodeSpecifier true (bytes [0xAC, 0x92, 0x78, 0x56, 0x34, 0x12])) (.a32SibM2B2I2 5 2 0x12345678) ∧
    reads (decodeSpecifier true (bytes [0xAC, 0x9A, 0x78, 0x56, 0x34, 0x12])) (.a32SibM2B2I3 5 2 0x12345678) ∧
    reads (decodeSpecifier true (bytes [0xAC, 0xA2, 0x78, 0x56, 0x34, 0x12])) (.a32SibM2B2I4 5 2 0x12345678) ∧
    reads (decodeSpecifier true (bytes [0xAC, 0xAA, 0x78, 0x56, 0x34, 0x12])) (.a32SibM2B2I5 5 2 0x12345678) ∧
    reads (decodeSpecifier true (bytes [0xAC, 0xB2, 0x78, 0x56, 0x34, 0x12])) (.a32SibM2B2I6 5 2 0x12345678) ∧
    reads (decodeSpecifier true (bytes [0xAC, 0xBA, 0x78, 0x56, 0x34, 0x12])) (.a32SibM2B2I7 5 2 0x12345678) := by decide

/-- R189, R190. -/
theorem test_decode_sib_mod2_base3 :
    reads (decodeSpecifier true (bytes [0xAC, 0x83, 0x78, 0x56, 0x34, 0x12])) (.a32SibM2B3I0 5 2 0x12345678) ∧
    reads (decodeSpecifier true (bytes [0xAC, 0x8B, 0x78, 0x56, 0x34, 0x12])) (.a32SibM2B3I1 5 2 0x12345678) ∧
    reads (decodeSpecifier true (bytes [0xAC, 0x93, 0x78, 0x56, 0x34, 0x12])) (.a32SibM2B3I2 5 2 0x12345678) ∧
    reads (decodeSpecifier true (bytes [0xAC, 0x9B, 0x78, 0x56, 0x34, 0x12])) (.a32SibM2B3I3 5 2 0x12345678) ∧
    reads (decodeSpecifier true (bytes [0xAC, 0xA3, 0x78, 0x56, 0x34, 0x12])) (.a32SibM2B3I4 5 2 0x12345678) ∧
    reads (decodeSpecifier true (bytes [0xAC, 0xAB, 0x78, 0x56, 0x34, 0x12])) (.a32SibM2B3I5 5 2 0x12345678) ∧
    reads (decodeSpecifier true (bytes [0xAC, 0xB3, 0x78, 0x56, 0x34, 0x12])) (.a32SibM2B3I6 5 2 0x12345678) ∧
    reads (decodeSpecifier true (bytes [0xAC, 0xBB, 0x78, 0x56, 0x34, 0x12])) (.a32SibM2B3I7 5 2 0x12345678) := by decide

/-- R189, R190. -/
theorem test_decode_sib_mod2_base4 :
    reads (decodeSpecifier true (bytes [0xAC, 0x84, 0x78, 0x56, 0x34, 0x12])) (.a32SibM2B4I0 5 2 0x12345678) ∧
    reads (decodeSpecifier true (bytes [0xAC, 0x8C, 0x78, 0x56, 0x34, 0x12])) (.a32SibM2B4I1 5 2 0x12345678) ∧
    reads (decodeSpecifier true (bytes [0xAC, 0x94, 0x78, 0x56, 0x34, 0x12])) (.a32SibM2B4I2 5 2 0x12345678) ∧
    reads (decodeSpecifier true (bytes [0xAC, 0x9C, 0x78, 0x56, 0x34, 0x12])) (.a32SibM2B4I3 5 2 0x12345678) ∧
    reads (decodeSpecifier true (bytes [0xAC, 0xA4, 0x78, 0x56, 0x34, 0x12])) (.a32SibM2B4I4 5 2 0x12345678) ∧
    reads (decodeSpecifier true (bytes [0xAC, 0xAC, 0x78, 0x56, 0x34, 0x12])) (.a32SibM2B4I5 5 2 0x12345678) ∧
    reads (decodeSpecifier true (bytes [0xAC, 0xB4, 0x78, 0x56, 0x34, 0x12])) (.a32SibM2B4I6 5 2 0x12345678) ∧
    reads (decodeSpecifier true (bytes [0xAC, 0xBC, 0x78, 0x56, 0x34, 0x12])) (.a32SibM2B4I7 5 2 0x12345678) := by decide

/-- R189, R190. -/
theorem test_decode_sib_mod2_base5 :
    reads (decodeSpecifier true (bytes [0xAC, 0x85, 0x78, 0x56, 0x34, 0x12])) (.a32SibM2B5I0 5 2 0x12345678) ∧
    reads (decodeSpecifier true (bytes [0xAC, 0x8D, 0x78, 0x56, 0x34, 0x12])) (.a32SibM2B5I1 5 2 0x12345678) ∧
    reads (decodeSpecifier true (bytes [0xAC, 0x95, 0x78, 0x56, 0x34, 0x12])) (.a32SibM2B5I2 5 2 0x12345678) ∧
    reads (decodeSpecifier true (bytes [0xAC, 0x9D, 0x78, 0x56, 0x34, 0x12])) (.a32SibM2B5I3 5 2 0x12345678) ∧
    reads (decodeSpecifier true (bytes [0xAC, 0xA5, 0x78, 0x56, 0x34, 0x12])) (.a32SibM2B5I4 5 2 0x12345678) ∧
    reads (decodeSpecifier true (bytes [0xAC, 0xAD, 0x78, 0x56, 0x34, 0x12])) (.a32SibM2B5I5 5 2 0x12345678) ∧
    reads (decodeSpecifier true (bytes [0xAC, 0xB5, 0x78, 0x56, 0x34, 0x12])) (.a32SibM2B5I6 5 2 0x12345678) ∧
    reads (decodeSpecifier true (bytes [0xAC, 0xBD, 0x78, 0x56, 0x34, 0x12])) (.a32SibM2B5I7 5 2 0x12345678) := by decide

/-- R189, R190. -/
theorem test_decode_sib_mod2_base6 :
    reads (decodeSpecifier true (bytes [0xAC, 0x86, 0x78, 0x56, 0x34, 0x12])) (.a32SibM2B6I0 5 2 0x12345678) ∧
    reads (decodeSpecifier true (bytes [0xAC, 0x8E, 0x78, 0x56, 0x34, 0x12])) (.a32SibM2B6I1 5 2 0x12345678) ∧
    reads (decodeSpecifier true (bytes [0xAC, 0x96, 0x78, 0x56, 0x34, 0x12])) (.a32SibM2B6I2 5 2 0x12345678) ∧
    reads (decodeSpecifier true (bytes [0xAC, 0x9E, 0x78, 0x56, 0x34, 0x12])) (.a32SibM2B6I3 5 2 0x12345678) ∧
    reads (decodeSpecifier true (bytes [0xAC, 0xA6, 0x78, 0x56, 0x34, 0x12])) (.a32SibM2B6I4 5 2 0x12345678) ∧
    reads (decodeSpecifier true (bytes [0xAC, 0xAE, 0x78, 0x56, 0x34, 0x12])) (.a32SibM2B6I5 5 2 0x12345678) ∧
    reads (decodeSpecifier true (bytes [0xAC, 0xB6, 0x78, 0x56, 0x34, 0x12])) (.a32SibM2B6I6 5 2 0x12345678) ∧
    reads (decodeSpecifier true (bytes [0xAC, 0xBE, 0x78, 0x56, 0x34, 0x12])) (.a32SibM2B6I7 5 2 0x12345678) := by decide

/-- R189, R190. -/
theorem test_decode_sib_mod2_base7 :
    reads (decodeSpecifier true (bytes [0xAC, 0x87, 0x78, 0x56, 0x34, 0x12])) (.a32SibM2B7I0 5 2 0x12345678) ∧
    reads (decodeSpecifier true (bytes [0xAC, 0x8F, 0x78, 0x56, 0x34, 0x12])) (.a32SibM2B7I1 5 2 0x12345678) ∧
    reads (decodeSpecifier true (bytes [0xAC, 0x97, 0x78, 0x56, 0x34, 0x12])) (.a32SibM2B7I2 5 2 0x12345678) ∧
    reads (decodeSpecifier true (bytes [0xAC, 0x9F, 0x78, 0x56, 0x34, 0x12])) (.a32SibM2B7I3 5 2 0x12345678) ∧
    reads (decodeSpecifier true (bytes [0xAC, 0xA7, 0x78, 0x56, 0x34, 0x12])) (.a32SibM2B7I4 5 2 0x12345678) ∧
    reads (decodeSpecifier true (bytes [0xAC, 0xAF, 0x78, 0x56, 0x34, 0x12])) (.a32SibM2B7I5 5 2 0x12345678) ∧
    reads (decodeSpecifier true (bytes [0xAC, 0xB7, 0x78, 0x56, 0x34, 0x12])) (.a32SibM2B7I6 5 2 0x12345678) ∧
    reads (decodeSpecifier true (bytes [0xAC, 0xBF, 0x78, 0x56, 0x34, 0x12])) (.a32SibM2B7I7 5 2 0x12345678) := by decide

/-- R101. -/
theorem test_decode_prefixes :
    reads (decodePrefix (bytes [0x26])) .prefixEs ∧
    reads (decodePrefix (bytes [0x2E])) .prefixCs ∧
    reads (decodePrefix (bytes [0x36])) .prefixSs ∧
    reads (decodePrefix (bytes [0x3E])) .prefixDs ∧
    reads (decodePrefix (bytes [0x64])) .prefixFs ∧
    reads (decodePrefix (bytes [0x65])) .prefixGs ∧
    reads (decodePrefix (bytes [0x66])) .prefixOpsize ∧
    reads (decodePrefix (bytes [0x67])) .prefixAddrsize := by decide

/-- R106. -/
theorem test_decode_ports :
    reads (decodePort 0b0000) .resolve ∧
    reads (decodePort 0b0001) .translate ∧
    reads (decodePort 0b0010) .memRead ∧
    reads (decodePort 0b0011) .memWrite ∧
    reads (decodePort 0b0100) .fetchWindow ∧
    reads (decodePort 0b0101) .writePdBase ∧
    reads (decodePort 0b0110) .flushCache ∧
    reads (decodePort 0b0111) .setA20 ∧
    reads (decodePort 0b1000) .reset := by decide

/-- R101, R106: bytes and codes without an instruction are rejected by name. -/
theorem test_decode_rejects :
    decodePrefix (bytes [0x90]) = .reject (.notPrefix 0x90) ∧ decodePort 0b1001 = .reject (.noPortCode 0b1001) ∧
    decodeSpecifier true (bytes [0x05, 0x10]) = .reject .windowEnds ∧ decode .m32s (bytes [0x05, 0x10]) = .reject (.notSibForm 5) := by
  decide

/-- R108: the ModR/M byte of a 16-bit word is its high half. -/
theorem test_table_words :
    decodeTableWord 8 0x46 = some (.a16M1Rm6 0 0) ∧ decodeTableWord 16 0x4488 = some (.a32SibM1B0I1 0 2 0) ∧
    decodeTableWord 8 0x26 = some .prefixEs ∧ decodeTableWord 4 8 = some .reset := by decide

/-! ### One step of the resolver (95_test_vectors.md §2.1 to §2.3) -/

/-- Registers of §2.1. -/
def registers16 : Vector Word 8 := #v[0, 0, 0, 0xFFF0, 0, 0x2000, 0x20, 3]

/-- Registers of §2.2 and §2.3. -/
def registers32 : Vector Word 8 := #v[0x1000, 4, 0x80000000, 0xFFFFFFF0, 0xFFFC, 0x2000, 0x20, 3]

/-- A machine about to resolve these bytes. -/
def resolving (a32 : Bool) (override : Option Seg) (l : List Nat) : State :=
  { State.reset with
    gpr := if a32 then registers32 else registers16, segBase := #v[0x30000, 0, 0x20000, 0x10000, 0x40000, 0],
    addressSize32 := a32, segOverride := override, win := bytes (l ++ List.replicate (16 - l.length) 0),
    requests := [.decode .specifier] }

/-- One step answers segment, offset, linear address, and consumes `n` bytes. -/
def answers (s : State) (seg : Seg) (offset linear : Word) (n : Nat) : Bool :=
  match step s with
  | .next t => decide (t.out = .location (.memory seg offset linear) 0) && decide (t.cursor = n)
  | .fault _ => false
  | .refused _ => false

/-- One step answers a register location and consumes one byte. -/
def answersRegister (s : State) (index reg : RegIdx) : Bool :=
  match step s with
  | .next t => decide (t.out = .location (.register index) reg) && decide (t.cursor = 1)
  | .fault _ => false
  | .refused _ => false

/-- §2.1, rows 1 to 8. -/
theorem test_step_16_1 :
    answers (resolving false none [0x00]) .ds 0x0010 0x00010010 1 ∧
    answers (resolving false none [0x01]) .ds 0xFFF3 0x0001FFF3 1 ∧
    answers (resolving false none [0x02]) .ss 0x2020 0x00022020 1 ∧
    answers (resolving false none [0x03]) .ss 0x2003 0x00022003 1 ∧
    answers (resolving false none [0x04]) .ds 0x0020 0x00010020 1 ∧
    answers (resolving false none [0x05]) .ds 0x0003 0x00010003 1 ∧
    answers (resolving false none [0x06, 0x00, 0x80]) .ds 0x8000 0x00018000 3 ∧
    answers (resolving false none [0x07]) .ds 0xFFF0 0x0001FFF0 1 := by decide

/-- §2.1, rows 9 to 16. -/
theorem test_step_16_2 :
    answers (resolving false none [0x40, 0xF0]) .ds 0x0000 0x00010000 2 ∧
    answers (resolving false none [0x41, 0xF0]) .ds 0xFFE3 0x0001FFE3 2 ∧
    answers (resolving false none [0x42, 0xF0]) .ss 0x2010 0x00022010 2 ∧
    answers (resolving false none [0x43, 0xF0]) .ss 0x1FF3 0x00021FF3 2 ∧
    answers (resolving false none [0x44, 0xF0]) .ds 0x0010 0x00010010 2 ∧
    answers (resolving false none [0x45, 0xF0]) .ds 0xFFF3 0x0001FFF3 2 ∧
    answers (resolving false none [0x46, 0xF0]) .ss 0x1FF0 0x00021FF0 2 ∧
    answers (resolving false none [0x47, 0xF0]) .ds 0xFFE0 0x0001FFE0 2 := by decide

/-- §2.1, rows 17 to 24. -/
theorem test_step_16_3 :
    answers (resolving false none [0x80, 0x00, 0x80]) .ds 0x8010 0x00018010 3 ∧
    answers (resolving false none [0x81, 0x00, 0x80]) .ds 0x7FF3 0x00017FF3 3 ∧
    answers (resolving false none [0x82, 0x00, 0x80]) .ss 0xA020 0x0002A020 3 ∧
    answers (resolving false none [0x83, 0x00, 0x80]) .ss 0xA003 0x0002A003 3 ∧
    answers (resolving false none [0x84, 0x00, 0x80]) .ds 0x8020 0x00018020 3 ∧
    answers (resolving false none [0x85, 0x00, 0x80]) .ds 0x8003 0x00018003 3 ∧
    answers (resolving false none [0x86, 0x00, 0x80]) .ss 0xA000 0x0002A000 3 ∧
    answers (resolving false none [0x87, 0x00, 0x80]) .ds 0x7FF0 0x00017FF0 3 := by decide

/-- §2.2, rows 1 to 8. -/
theorem test_step_32_1 :
    answers (resolving true none [0x00]) .ds 0x00001000 0x00011000 1 ∧
    answers (resolving true none [0x01]) .ds 0x00000004 0x00010004 1 ∧
    answers (resolving true none [0x02]) .ds 0x80000000 0x80010000 1 ∧
    answers (resolving true none [0x03]) .ds 0xFFFFFFF0 0x0000FFF0 1 ∧
    answers (resolving true none [0x05, 0x10, 0x00, 0x00, 0x80]) .ds 0x80000010 0x80010010 5 ∧
    answers (resolving true none [0x06]) .ds 0x00000020 0x00010020 1 ∧
    answers (resolving true none [0x07]) .ds 0x00000003 0x00010003 1 ∧
    answers (resolving true none [0x40, 0xF0]) .ds 0x00000FF0 0x00010FF0 2 := by decide

/-- §2.2, rows 9 to 16. -/
theorem test_step_32_2 :
    answers (resolving true none [0x41, 0xF0]) .ds 0xFFFFFFF4 0x0000FFF4 2 ∧
    answers (resolving true none [0x42, 0xF0]) .ds 0x7FFFFFF0 0x8000FFF0 2 ∧
    answers (resolving true none [0x43, 0xF0]) .ds 0xFFFFFFE0 0x0000FFE0 2 ∧
    answers (resolving true none [0x45, 0xF0]) .ss 0x00001FF0 0x00021FF0 2 ∧
    answers (resolving true none [0x46, 0xF0]) .ds 0x00000010 0x00010010 2 ∧
    answers (resolving true none [0x47, 0xF0]) .ds 0xFFFFFFF3 0x0000FFF3 2 ∧
    answers (resolving true none [0x80, 0x10, 0x00, 0x00, 0x80]) .ds 0x80001010 0x80011010 5 ∧
    answers (resolving true none [0x81, 0x10, 0x00, 0x00, 0x80]) .ds 0x80000014 0x80010014 5 := by decide

/-- §2.2, rows 17 to 21. -/
theorem test_step_32_3 :
    answers (resolving true none [0x82, 0x10, 0x00, 0x00, 0x80]) .ds 0x00000010 0x00010010 5 ∧
    answers (resolving true none [0x83, 0x10, 0x00, 0x00, 0x80]) .ds 0x80000000 0x80010000 5 ∧
    answers (resolving true none [0x85, 0x10, 0x00, 0x00, 0x80]) .ss 0x80002010 0x80022010 5 ∧
    answers (resolving true none [0x86, 0x10, 0x00, 0x00, 0x80]) .ds 0x80000030 0x80010030 5 ∧
    answers (resolving true none [0x87, 0x10, 0x00, 0x00, 0x80]) .ds 0x80000013 0x80010013 5 := by decide

/-- §2.3, rows 1 to 8. -/
theorem test_step_sib_1 :
    answers (resolving true none [0x04, 0x24]) .ss 0x0000FFFC 0x0002FFFC 2 ∧
    answers (resolving true none [0x04, 0x88]) .ds 0x00001010 0x00011010 2 ∧
    answers (resolving true none [0x04, 0x25, 0x10, 0x00, 0x00, 0x80]) .ds 0x80000010 0x80010010 6 ∧
    answers (resolving true none [0x04, 0x05, 0x10, 0x00, 0x00, 0x80]) .ds 0x80001010 0x80011010 6 ∧
    answers (resolving true none [0x04, 0xF5, 0x10, 0x00, 0x00, 0x80]) .ds 0x80000110 0x80010110 6 ∧
    answers (resolving true none [0x44, 0x24, 0xF0]) .ss 0x0000FFEC 0x0002FFEC 3 ∧
    answers (resolving true none [0x44, 0x8D, 0xF0]) .ss 0x00002000 0x00022000 3 ∧
    answers (resolving true none [0x84, 0x24, 0x10, 0x00, 0x00, 0x80]) .ss 0x8001000C 0x8003000C 6 := by decide

/-- §2.3, rows 9 to 16. -/
theorem test_step_sib_2 :
    answers (resolving true none [0x84, 0x93, 0x10, 0x00, 0x00, 0x80]) .ds 0x80000000 0x80010000 6 ∧
    answers (resolving true none [0x04, 0xE3]) .ds 0xFFFFFFF0 0x0000FFF0 2 ∧
    answers (resolving true none [0x04, 0x00]) .ds 0x00002000 0x00012000 2 ∧
    answers (resolving true none [0x04, 0xD3]) .ds 0xFFFFFFF0 0x0000FFF0 2 ∧
    answers (resolving true none [0x44, 0x65, 0xF0]) .ss 0x00001FF0 0x00021FF0 3 ∧
    answers (resolving true none [0x04, 0x2D, 0x10, 0x00, 0x00, 0x80]) .ds 0x80002010 0x80012010 6 ∧
    answers (resolving true none [0x04, 0x6C]) .ss 0x00013FFC 0x00033FFC 2 ∧
    answers (resolving true none [0x84, 0xAD, 0x10, 0x00, 0x00, 0x80]) .ss 0x8000A010 0x8002A010 6 := by decide

/-- §2.3, rows 17 to 23. -/
theorem test_step_sib_3 :
    answers (resolving true none [0x04, 0x64]) .ss 0x0000FFFC 0x0002FFFC 2 ∧
    answers (resolving true none [0x04, 0xA4]) .ss 0x0000FFFC 0x0002FFFC 2 ∧
    answers (resolving true none [0x04, 0xE4]) .ss 0x0000FFFC 0x0002FFFC 2 ∧
    answers (resolving true none [0x44, 0x2C, 0xF0]) .ss 0x00011FEC 0x00031FEC 3 ∧
    answers (resolving true none [0x04, 0x1A]) .ds 0x7FFFFFF0 0x8000FFF0 2 ∧
    answers (resolving true none [0x84, 0xFF, 0x10, 0x00, 0x00, 0x80]) .ds 0x8000002B 0x8001002B 6 ∧
    answers (resolving true none [0x04, 0xBD, 0x10, 0x00, 0x00, 0x80]) .ds 0x8000001C 0x8001001C 6 := by decide

/-- §2.1, corner cases. -/
theorem test_step_16_corners :
    answers (resolving false none [0x40, 0x7F]) .ds 0x008F 0x1008F 2 ∧
    answers (resolving false none [0x40, 0x80]) .ds 0xFF90 0x1FF90 2 ∧
    answers (resolving false none [0x46, 0x00]) .ss 0x2000 0x22000 2 ∧
    answers (resolving false none [0x06, 0x00, 0x20]) .ds 0x2000 0x12000 3 ∧
    answers (resolving false (some .es) [0x02]) .es 0x2020 0x32020 1 ∧
    answers (resolving false (some .ss) [0x07]) .ss 0xFFF0 0x2FFF0 1 ∧
    answersRegister (resolving false (some .es) [0xF8]) 0 7 ∧
    answers (resolving false none [0x87, 0xFF, 0xFF]) .ds 0xFFEF 0x1FFEF 3 := by decide

/-- §2.2, corner cases. -/
theorem test_step_32_corners :
    answers (resolving true none [0x45, 0x00]) .ss 0x2000 0x22000 2 ∧
    answers (resolving true none [0x05, 0x00, 0x20, 0x00, 0x00]) .ds 0x2000 0x12000 5 ∧
    answers (resolving true none [0x43, 0x7F]) .ds 0x6F 0x1006F 2 ∧
    answers (resolving true none [0x82, 0x00, 0x00, 0x00, 0x80]) .ds 0 0x10000 5 ∧
    answers (resolving true (some .ds) [0x45, 0xF0]) .ds 0x1FF0 0x11FF0 2 ∧
    answersRegister (resolving true none [0xC5]) 5 0 := by decide

/-- R173, R185: the `Resolve` port and the escape row, executed at the escape byte, give the SIB form. -/
theorem test_resolve_and_escape :
    let s := resolving true none [0x04, 0x25, 0x10, 0x00, 0x00, 0x80]
    let t := resolved s 6 (.memory .ds 0x80000010 0x80010010) 0
    nextIs (exec .resolve s) t ∧ nextIs (exec (.a32SibM0 0) s) t ∧ nextIs (exec (.a32SibM0B5I4 0 0 0x80000010) s) t := by
  decide

/-- §2.8: with the cursor at 13 six bytes overrun the window; with the cursor at 10 they end at 16. -/
theorem test_window_overrun :
    refusalIs (step { resolving true none [0, 0, 0, 0, 0, 0, 0, 0, 0, 0, 0, 0, 0, 0x84, 0x24, 0x10] with cursor := 13 }) .windowOverrun ∧
    answers { resolving true none [0, 0, 0, 0, 0, 0, 0, 0, 0, 0, 0x84, 0x24, 0x10, 0, 0, 0x80] with cursor := 10 }
      .ss 0x8001000C 0x8003000C 16 := by decide

/-! ### Prefixes (R41, R101, R264, R265) -/

/-- What a prefix leaves pending, and where IP goes. -/
def pending (r : StepResult) : Option (Option Seg × Bool × Bool × Word × Nat) :=
  match r with
  | .next t => some (t.segOverride, t.addressSize32, t.operandSize32, t.ip, t.cursor)
  | .fault _ => none
  | .refused _ => none

def prefixed (b : Nat) : State :=
  { resolving false none [b] with ip := 0x100, segOverride := some .es, requests := [.decode .prefixByte] }

theorem test_step_overrides :
    is (pending (step (prefixed 0x26))) (some (some .es, false, false, 0x101, 1)) ∧
    is (pending (step (prefixed 0x2E))) (some (some .cs, false, false, 0x101, 1)) ∧
    is (pending (step (prefixed 0x36))) (some (some .ss, false, false, 0x101, 1)) ∧
    is (pending (step (prefixed 0x3E))) (some (some .ds, false, false, 0x101, 1)) ∧
    is (pending (step (prefixed 0x64))) (some (some .fs, false, false, 0x101, 1)) ∧
    is (pending (step (prefixed 0x65))) (some (some .gs, false, false, 0x101, 1)) := by decide

theorem test_step_toggles :
    is (pending (step (prefixed 0x66))) (some (some .es, false, true, 0x101, 1)) ∧
    is (pending (step (prefixed 0x67))) (some (some .es, true, false, 0x101, 1)) ∧
    refusalIs (step (prefixed 0x90)) .notAPrefix := by decide

/-! ### Port operations -/

/-- The memory of 95_test_vectors.md §2.5, written byte by byte in address order, with `pmem[0x45FFC..F]` of §2.6. -/
def tables : List Host.Cell :=
  [(0x10000, 0x01), (0x10001, 0x20), (0x10002, 0x01), (0x10004, 0x01), (0x10005, 0x10), (0x10006, 0x01),
   (0x10FFC, 0x01), (0x10FFD, 0x30), (0x10FFE, 0x01), (0x1100C, 0x01), (0x1100D, 0x50), (0x1100E, 0x04),
   (0x11010, 0x06), (0x11011, 0x60), (0x11012, 0x04), (0x12000, 0xFF), (0x12001, 0x0F), (0x12002, 0x0A),
   (0x13FFC, 0x03), (0x13FFD, 0x70), (0x13FFE, 0x04), (0x45FFC, 0x01), (0x45FFD, 0x02), (0x45FFE, 0x03), (0x45FFF, 0x04)]

/-- Paging on with those tables, these entries cached. -/
def paged (tcache : List (Nat × Word)) (a : PortArguments) : State :=
  { State.reset with pdBase := 0x10000, pmem := tables, tcache := tcache, args := a }

/-- Paging off, A20 disabled, the bytes of §2.6. -/
def unpaged (a : PortArguments) : State :=
  { State.reset with
    pmem := [(0, 0x12), (0xFFE, 0xAA), (0xFFF, 0xBB), (0x1000, 0xCC), (0x1001, 0xDD), (0xFFFFF, 0x34)], args := a }

def at_ (l : Word) (n : Nat) (kind : AccessKind) (v : Nat) : PortArguments :=
  { PortArguments.idle with linear := l, count := n, kind := kind, value := v }

/-- Output, walk count and cache after a step. -/
def translation (r : StepResult) : Option (Output × Nat × List (Nat × Word)) :=
  match r with
  | .next t => some (t.out, t.walkCount, t.tcache)
  | .fault _ => none
  | .refused _ => none

/-- §2.5 steps 1 to 3, R241: a walk, a hit of another kind, a fault that caches nothing. -/
theorem test_translate_paged :
    is (translation (exec .translate (paged [] (at_ 0x00403ABC 1 .read 0)))) (some (.physical 0x00045ABC, 1, [(0x403, 0x45000)])) ∧
    is (translation (exec .translate (paged [(0x403, 0x45000)] (at_ 0x00403FFF 1 .write 0)))) (some (.physical 0x00045FFF, 0, [(0x403, 0x45000)])) ∧
    is (translation (exec .translate (paged [(0x403, 0x45000)] (at_ 0x00404000 1 .read 0)))) (some (.pageFault 0x00404000 .read, 1, [(0x403, 0x45000)])) ∧
    is (translation (exec .translate (paged [] (at_ 0xFFFFFFFF 1 .write 0)))) (some (.physical 0x00047FFF, 1, [(0xFFFFF, 0x47000)])) := by decide

/-- §2.5, paging off, and steps 5 and 7: ignored entry bits; a fault at the first level. -/
theorem test_translate_more :
    is (translation (exec .translate (unpaged (at_ 0x0010FFEF 1 .read 0)))) (some (.physical 0x0000FFEF, 0, [])) ∧
    is (translation (exec .translate { unpaged (at_ 0x0010FFEF 1 .read 0) with a20Mask := 0xFFFFFFFF })) (some (.physical 0x0010FFEF, 0, [])) ∧
    is (translation (exec .translate (paged [] (at_ 0x123 1 .instructionFetch 0)))) (some (.physical 0x000A0123, 1, [(0, 0xA0000)])) ∧
    is (translation (exec .translate (paged [] (at_ 0x00800000 1 .write 0)))) (some (.pageFault 0x00800000 .write, 1, [])) := by decide

/-- What a step puts out. -/
def output (r : StepResult) : Option Output :=
  match r with
  | .next t => some t.out
  | .fault _ => none
  | .refused _ => none

/-- §2.6: little-endian, straddling, the A20 wrap, a straddling read that faults. -/
theorem test_memRead :
    is (output (exec .memRead (unpaged (at_ 0xFFE 2 .read 0)))) (some (.value 2 0xBBAA)) ∧
    is (output (exec .memRead (unpaged (at_ 0xFFE 4 .read 0)))) (some (.value 4 0xDDCCBBAA)) ∧
    is (output (exec .memRead (unpaged (at_ 0xFFFFF 2 .read 0)))) (some (.value 2 0x1234)) ∧
    is (output (exec .memRead (paged [] (at_ 0x00403FFC 4 .read 0)))) (some (.value 4 0x04030201)) ∧
    is (output (exec .memRead (paged [] (at_ 0x00403FFE 4 .read 0)))) (some (.pageFault 0x00404000 .read)) := by decide

/-- §2.6: PHYS_SIZE with the A20 gate enabled, and calls of the video handler. -/
theorem test_memRead_bounds :
    refusalIs (exec .memRead { unpaged (at_ 0x003FFFFE 4 .read 0) with a20Mask := 0xFFFFFFFF }) .physOutOfRange ∧
    is (output (exec .memRead { unpaged (at_ 0x003FFFFC 4 .read 0) with a20Mask := 0xFFFFFFFF })) (some (.value 4 0)) ∧
    (match exec .memRead (unpaged (at_ 0x001A0000 1 .read 0)) with
     | .next t => decide (t.videoCalls = [.read 0x000A0000 1])
     | .fault _ => false
     | .refused _ => false) = true := by decide

/-- Four bytes of the backing store after a step, its output and the video calls. -/
def stored (a : Nat) (r : StepResult) : Option (List Byte × Output × List VideoCall) :=
  match r with
  | .next t => some (Memory.readBytes t.pmem a 4, t.out, t.videoCalls)
  | .fault _ => none
  | .refused _ => none

/-- §2.6: a straddling store into a page that is not present keeps its first two bytes; one that does not straddle. -/
theorem test_memWrite :
    is (stored 0x45FFC (exec .memWrite (paged [] (at_ 0x00403FFE 4 .read 0xAABBCCDD)))) (some ([0x01, 0x02, 0xDD, 0xCC], .pageFault 0x00404000 .write, [])) ∧
    is (stored 0x45FFC (exec .memWrite (paged [] (at_ 0x00403FFC 4 .read 0xAABBCCDD)))) (some ([0xDD, 0xCC, 0xBB, 0xAA], .nothing, [])) ∧
    is (stored 0x45FFC (exec .memWrite (paged [] (at_ 0x00404000 4 .read 0xAABBCCDD)))) (some ([0x01, 0x02, 0x03, 0x04], .pageFault 0x00404000 .write, [])) := by decide

/-- §2.6: a store that straddles into the VRAM window, and one inside it. -/
theorem test_memWrite_vram :
    is (stored 0x9FFFF (exec .memWrite (unpaged (at_ 0x9FFFF 2 .read 0xBEEF)))) (some ([0xEF, 0, 0, 0], .nothing, [.write 0xA0000 [0xBE]])) ∧
    is (stored 0xA0010 (exec .memWrite (unpaged (at_ 0xA0010 4 .read 0x11223344)))) (some ([0, 0, 0, 0], .nothing, [.write 0xA0010 [0x44, 0x33, 0x22, 0x11]])) := by decide

/-- §2.6: the window fetch at 0xFF8, and the eager fault at byte 8 of 0x00403FF8. -/
theorem test_fetchWindow :
    (match exec .fetchWindow { unpaged (at_ 0xFF8 1 .read 0) with cursor := 3 } with
     | .next t => decide (t.win = bytes [0, 0, 0, 0, 0, 0, 0xAA, 0xBB, 0xCC, 0xDD, 0, 0, 0, 0, 0, 0] ∧ t.cursor = 0)
     | .fault _ => false
     | .refused _ => false) = true ∧
    is (output (exec .fetchWindow (paged [] (at_ 0x00403FF8 1 .read 0)))) (some (.pageFault 0x00404000 .instructionFetch)) := by decide

/-- §2.7. -/
theorem test_writePdBase :
    is (translation (exec .writePdBase { paged [(0x403, 0x45000)] (at_ 0 1 .read 0x10000) with walkCount := 7 })) (some (.nothing, 7, [])) ∧
    refusalIs (exec .writePdBase (paged [] (at_ 0 1 .read 0x10001))) .pdBaseMisaligned := by decide

/-- §2.7. -/
theorem test_flushCache :
    is (translation (exec .flushCache { paged [(0x403, 0x45000)] .idle with walkCount := 7 })) (some (.nothing, 7, [])) := by decide

/-- §2.7: the cache is not cleared. -/
theorem test_setA20 :
    (match exec .setA20 (paged [(0x403, 0x45000)] { PortArguments.idle with enabled := true }) with
     | .next t => decide (t.a20Mask = 0xFFFFFFFF ∧ t.tcache = [(0x403, 0x45000)])
     | .fault _ => false
     | .refused _ => false) = true := by decide

/-- §2.7. -/
theorem test_reset :
    (match exec .reset { paged [(0x403, 0x45000)] .idle with cursor := 5, segOverride := some .fs, walkCount := 7 } with
     | .next t => decide (t.pdBase = 0 ∧ t.tcache = [] ∧ t.walkCount = 0 ∧ t.a20Mask = 0x000FFFFF ∧ t.segOverride = none ∧
         t.cursor = 0 ∧ t.pmem = tables)
     | .fault _ => false
     | .refused _ => false) = true := by decide

/-! ### The dispatch cycle -/

/-- `ADD r/m16,r16` of S4 and program 1: the r/m operand inout, the reg-field operand input. -/
def addRm16 : Descriptor :=
  { opcodeLen := 1, fixed := [], implicit := [], specifier := .full .two .input (.location .registerOrMemory .two .inout), immediates := [] }

/-- A memory-only operand, an effective-address-only operand. -/
def memOnly : Descriptor := { addRm16 with specifier := .onlyExtraDigit (.location .memoryOnly .two .input) }
def lea : Descriptor := { addRm16 with specifier := .full .two .output .effectiveAddress }

/-- The handler's answer: r/m value, registers unchanged. -/
def handled (rm : Nat) : HandlerAnswer := { operations := [], fixed := [], implicit := [], reg := 0x1234, rm := rm, gprWrites := [], flags := 0x46 }

def only (d : Descriptor) : Vector (Option Descriptor) 4 := #v[some d, none, none, none]

/-- Code at 0x7C00, SegBase(CS) = 0; AX = 5, BX = 3, BP = 0x2000, SI = 0x20; `pmem[0x10023]` = 0x00FF. -/
def running (code : List Nat) (r : Request) : State :=
  { State.reset with
    gpr := #v[5, 0, 0, 3, 0, 0x2000, 0x20, 0], segBase := #v[0x30000, 0, 0x20000, 0x10000, 0, 0], ip := 0x7C00,
    pmem := Memory.writeBytes (Memory.writeBytes [] 0x7C00 (bytes code)) 0x10023 (bytes [0xFF]), requests := [r] }

/-- S4 (R266): bytes `01 D8` leave AX = 8 and advance IP by exactly 2; the operand values handed over are BX and AX. -/
theorem test_cycle_register :
    (match step (running [0x01, 0xD8] (.cycle (.entry (only addRm16) (handled 8)))) with
     | .next t => decide (t.gpr = #v[8, 0, 0, 3, 0, 0x2000, 0x20, 0] ∧ t.ip = 0x7C02 ∧ t.flags = 0x46 ∧
         t.out = .operands { fixed := [], implicit := [], reg := some 3, rm := some 5, immediates := [] })
     | .fault _ => false
     | .refused _ => false) = true := by decide

/-- R121, R262: `01 00` is `ADD [BX+SI],AX`: read and written at DS:0x0023. -/
theorem test_cycle_memory :
    (match step (running [0x01, 0x00] (.cycle (.entry (only addRm16) (handled 0x104)))) with
     | .next t => decide (Memory.readBytes t.pmem 0x10023 2 = [0x04, 0x01] ∧ t.ip = 0x7C02 ∧
         t.out = .operands { fixed := [], implicit := [], reg := some 5, rm := some 0xFF, immediates := [] })
     | .fault _ => false
     | .refused _ => false) = true := by decide

/-- §2.4, §2.8, R272 to R274: the three terminal faults. -/
theorem test_cycle_faults :
    faultIs (step (running [0x01, 0xD8] (.cycle (.entry (only memOnly) (handled 0))))) .addressingFault ∧
    faultIs (step (running [0x0F, 0xFF] (.cycle (.noEntry 1)))) (.decodeFault [0x0F, 0xFF]) ∧
    faultIs (step { running [0x01, 0xD8] (.cycle (.entry (only addRm16) (handled 8))) with addressSize32 := true }) (.unimplementedSize 2) := by decide

/-- §2.4: an effective-address-only operand `46 F0` with BP = 0x2000 and an override: value 0x1FF0, no base. -/
theorem test_cycle_effective_address :
    (match step { running [0x8D, 0x46, 0xF0] (.cycle (.entry (only lea) (handled 0))) with segOverride := some .es } with
     | .next t => decide (t.out = .operands { fixed := [], implicit := [], reg := none, rm := some 0x1FF0, immediates := [] } ∧
         t.gpr.get 0 = 0x1234 ∧ t.segOverride = none ∧ t.ip = 0x7C03)
     | .fault _ => false
     | .refused _ => false) = true := by decide

/-- R41, R265: a prefix is an instruction of its own; the cycle is still to come. -/
theorem test_cycle_prefix :
    (match step (running [0x26, 0x01, 0xD8] (.cycle (.noEntry 0))) with
     | .next t => decide (t.segOverride = some .es ∧ t.ip = 0x7C01 ∧ t.requests = [.cycle (.noEntry 0)])
     | .fault _ => false
     | .refused _ => false) = true := by decide

/-- A cycle in the page 0x403, cached at 0x46000: bytes `00 00`, an inout operand at 0x00403800 of the same page, and a handler
that causes the given operations. -/
def staleOperand (operations : List MaintenanceOp) : State :=
  { paged [(0x403, 0x46000)] .idle with
    gpr := #v[0, 0, 0, 0, 0, 0, 0, 0], ip := 0x00403000, segBase := #v[0, 0, 0, 0x00403800, 0, 0],
    requests := [.cycle (.entry (only addRm16) { handled 0x1234 with operations := operations })] }

/-- R252, R263, R310: without a flush the write-back goes through the stale entry; after the handler's `FlushCache` it walks and
goes to the page of the table, 0x45000. -/
theorem test_cycle_handler_flushes :
    (match step (staleOperand []), step (staleOperand [.flushCache]) with
     | .next t, .next u => decide (Memory.readBytes t.pmem 0x46800 2 = [0x34, 0x12] ∧ t.walkCount = 0 ∧
         Memory.readBytes u.pmem 0x46800 2 = [0, 0] ∧ Memory.readBytes u.pmem 0x45800 2 = [0x34, 0x12] ∧ u.walkCount = 1 ∧
         u.ip = 0x00403002)
     | _, _ => false) = true := by decide

/-- R250, R263, R281: after the handler's `WritePdBase(0)` the write-back is unpaged, A20 disabled; with an empty directory it
faults, kind Write, the new base and mask in place and IP unchanged; a misaligned base is refused (R251). -/
theorem test_cycle_handler_writes_base :
    (match step (staleOperand [.writePdBase 0]), step (staleOperand [.setA20 true, .writePdBase 0x50000]) with
     | .next t, .next u => decide (Memory.readBytes t.pmem 0x3800 2 = [0x34, 0x12] ∧ t.pdBase = 0 ∧
         u.out = .pageFault 0x00403800 .write ∧ u.pdBase = 0x50000 ∧ u.tcache = [] ∧ u.a20Mask = 0xFFFFFFFF ∧
         u.ip = 0x00403000)
     | _, _ => false) = true ∧ refusalIs (step (staleOperand [.writePdBase 0x50001])) .pdBaseMisaligned := by decide

/-- R260 step (3): `81 C0 34 12 05` with immediates of 2 and 1 bytes after the ModR/M byte; and R219: `A1 23 00 7F` with a
memory offset and one immediate, the offset first (log 36). -/
def immediateForm : Descriptor :=
  { opcodeLen := 1, fixed := [⟨2, .two, .inout⟩], implicit := [], specifier := .onlyExtraDigit (.location .registerOrMemory .two .inout),
    immediates := [.two, .one] }

def offsetForm : Descriptor :=
  { opcodeLen := 1, fixed := [⟨0, .two, .output⟩], implicit := [], specifier := .memoryOffset .two .input, immediates := [.one] }

theorem test_cycle_immediates :
    (match step (running [0x81, 0xC0, 0x34, 0x12, 0x05] (.cycle (.entry (only immediateForm) { handled 9 with fixed := [7] }))) with
     | .next t => decide (t.gpr = #v[9, 0, 7, 3, 0, 0x2000, 0x20, 0] ∧ t.ip = 0x7C05 ∧
         t.out = .operands { fixed := [some 0], implicit := [], reg := none, rm := some 5, immediates := [0x1234, 5] })
     | .fault _ => false
     | .refused _ => false) = true := by decide

theorem test_cycle_memory_offset :
    (match step (running [0xA1, 0x23, 0x00, 0x7F] (.cycle (.entry (only offsetForm) { handled 0 with fixed := [0xFF] }))) with
     | .next t => decide (t.gpr.get 0 = 0xFF ∧ t.ip = 0x7C04 ∧
         t.out = .operands { fixed := [none], implicit := [], reg := none, rm := some 0xFF, immediates := [0x7F] })
     | .fault _ => false
     | .refused _ => false) = true := by decide

/-- An instruction with three memory write-backs: two implicit ones at SS:0x10 and SS:0x14, and the r/m operand at `[BX+SI]`. -/
def threeWrites : Descriptor :=
  { addRm16 with
    implicit := [⟨.ss, 0x10, .two, .inout⟩, ⟨.ss, 0x14, .four, .output⟩]
    specifier := .full .two .input (.location .registerOrMemory .two .output) }

/-- A cycle in the page 0x403, cached at 0x46000, with SS based at `ss` and the r/m operand in page 0x404, not present. -/
def threeWriting (ss : Word) : State :=
  { paged [(0x403, 0x46000)] .idle with
    gpr := #v[0, 0, 0, 0, 0, 0, 0, 0], ip := 0x00403000, segBase := #v[0, 0, ss, 0x00404000, 0, 0],
    requests := [.cycle (.entry (only threeWrites) { handled 0x1234 with implicit := [0xBEEF, 0xAABBCCDD] })] }

/-- R317, R280, R281: the r/m write-back faults, and the two before it stay; in the other run the second implicit one faults, in
a page that is not present, and the first stays. IP is unchanged, the handler's flags stay. -/
theorem test_cycle_partial_completion :
    (match step (threeWriting 0x00403800), step (threeWriting 0x00403FEC) with
     | .next t, .next u => decide (t.out = .pageFault 0x00404000 .write ∧ t.ip = 0x00403000 ∧ t.flags = 0x46 ∧
         Memory.readBytes t.pmem 0x46810 8 = [0xEF, 0xBE, 0, 0, 0xDD, 0xCC, 0xBB, 0xAA] ∧
         u.out = .pageFault 0x00404000 .write ∧ u.ip = 0x00403000 ∧ Memory.readBytes u.pmem 0x46FFC 4 = [0xEF, 0xBE, 0, 0])
     | _, _ => false) = true := by decide

/-- R256, R262, D36: an implicit operand at DS:0x23, whatever override is pending, is read and handed over before the r/m operand, and written back. -/
theorem test_cycle_implicit_operand :
    (match step { running [0x01, 0xD8] (.cycle (.entry
         (only { addRm16 with implicit := [⟨.ds, 0x23, .two, .inout⟩] }) { handled 8 with implicit := [0x1FF] })) with
         segOverride := some .es } with
     | .next t => decide (Memory.readBytes t.pmem 0x10023 2 = [0xFF, 0x01] ∧ t.gpr.get 0 = 8 ∧
         t.out = .operands { fixed := [], implicit := [some 0xFF], reg := some 3, rm := some 5, immediates := [] })
     | .fault _ => false
     | .refused _ => false) = true := by decide


/-! ## Witnesses

Each theorem shows a concrete state and operands that meet all hypotheses of the statement it names, clause by clause, at the
ends of the ranges. -/

/-- The cursor where a specifier of `len` bytes just fits. -/
def fits (len : Nat) : State := { resolving true none [] with cursor := 16 - len }

theorem witness_Form16WithoutBaseDisplacement :
    (∀ rm : Fin 8, BitVec.ofNat 8 (0x38 + rm.val) &&& 0xC7#8 = BitVec.ofNat 8 rm.val) ∧ (bytes [0x00, 0x80]).length = 2 ∧
    0xFFFF < 256 ^ 2 ∧ (fits 1).cursor + (1 + 0) ≤ windowLen ∧ (fits 3).cursor + (1 + 2) ≤ windowLen := by decide

theorem witness_Form16WithDisp8 :
    (∀ rm : Fin 8, BitVec.ofNat 8 (0x78 + rm.val) &&& 0xC7#8 = BitVec.ofNat 8 (0x40 + rm.val)) ∧ (bytes [0x80]).length = 1 ∧
    0xFF < 256 ^ 1 ∧ (fits 2).cursor + (1 + 1) ≤ windowLen := by decide

theorem witness_Form16WithDisp16 :
    (∀ rm : Fin 8, BitVec.ofNat 8 (0xB8 + rm.val) &&& 0xC7#8 = BitVec.ofNat 8 (0x80 + rm.val)) ∧
    (bytes [0xFF, 0xFF]).length = 2 ∧ 0xFFFF < 256 ^ 2 ∧ (fits 3).cursor + (1 + 2) ≤ windowLen := by decide

theorem witness_RegisterForms :
    0xFF#8 &&& 0xC0#8 = 0xC0#8 ∧ 0xC0#8 &&& 0xC0#8 = 0xC0#8 ∧ (fits 1).cursor + 1 ≤ windowLen ∧
    Width.one.toReg? = some .one ∧ Width.four.toReg? = some .four := by decide

theorem witness_Form32WithoutBaseDisplacement :
    (∀ rm : Fin 8, BitVec.ofNat 8 (0x38 + rm.val) &&& 0xC7#8 = BitVec.ofNat 8 rm.val) ∧
    (bytes [0, 0, 0, 0x80]).length = 4 ∧ 0xFFFFFFFF < 256 ^ 4 ∧ (fits 1).cursor + (1 + 0) ≤ windowLen ∧
    (fits 5).cursor + (1 + 4) ≤ windowLen := by decide

theorem witness_Form32WithDisp8 :
    (∀ rm : Fin 8, BitVec.ofNat 8 (0x78 + rm.val) &&& 0xC7#8 = BitVec.ofNat 8 (0x40 + rm.val)) ∧
    (fits 2).cursor + (1 + 1) ≤ windowLen := by decide

theorem witness_Form32WithDisp32 :
    (∀ rm : Fin 8, BitVec.ofNat 8 (0xB8 + rm.val) &&& 0xC7#8 = BitVec.ofNat 8 (0x80 + rm.val)) ∧
    (fits 5).cursor + (1 + 4) ≤ windowLen := by decide

/-- The last six bytes of the window are `84 24` and a displacement (§2.8); the first are `04 25` and one. -/
theorem witness_SibEscapeTakesTheNextByte :
    0x3C#8 &&& 0xC7#8 = modrmByte 0 0 4 ∧ 0x7C#8 &&& 0xC7#8 = modrmByte 1 0 4 ∧ 0xBC#8 &&& 0xC7#8 = modrmByte 2 0 4 ∧
    (let s := { resolving true none [0, 0, 0, 0, 0, 0, 0, 0, 0, 0, 0x84, 0x24, 0x10, 0, 0, 0x80] with cursor := 10 }
     s.win.drop (s.cursor + 1) = 0x24#8 :: (bytes [0x10, 0, 0, 0x80] ++ []) ∧
     (bytes [0x10, 0, 0, 0x80]).length = sibDispLen 2 ((0x24#8).extractLsb' 0 3) ∧ s.cursor + (2 + 4) ≤ windowLen) ∧
    (let s := resolving true none [0x44, 0x8D, 0xF0]
     s.win.drop (s.cursor + 1) = 0x8D#8 :: (bytes [0xF0] ++ List.replicate 13 0) ∧
     1 = sibDispLen 1 ((0x8D#8).extractLsb' 0 3) ∧ s.cursor + (2 + 1) ≤ windowLen) ∧
    (let s := resolving true none [0x04, 0x88]
     s.win.drop (s.cursor + 1) = 0x88#8 :: ([] ++ List.replicate 14 0) ∧
     0 = sibDispLen 0 ((0x88#8).extractLsb' 0 3) ∧ s.cursor + (2 + 0) ≤ windowLen) := by
  refine ⟨by decide, by decide, by decide, ⟨?_, ?_, ?_⟩, ⟨?_, ?_, ?_⟩, ⟨?_, ?_, ?_⟩⟩ <;> decide

theorem witness_SibMod0WithBase :
    ((0x3C#8 ++ 0xE4#8) &&& 0xC73F#16 = BitVec.ofNat 16 (0x0400 + 0x4000 * 0 + 8 * 4 + 4)) ∧
    ((0x04#8 ++ 0xC7#8) &&& 0xC73F#16 = BitVec.ofNat 16 (0x0400 + 0x4000 * 0 + 8 * 0 + 7)) ∧
    Instr.sibFields (.a32SibM0B4I4 7 3) = some ⟨0, 4, 4, 7, 3, []⟩ ∧
    Instr.sibFields (.a32SibM0B7I0 0 3) = some ⟨0, 7, 0, 0, 3, []⟩ ∧ (4 : RegIdx) ≠ 5 ∧ (7 : RegIdx) ≠ 5 ∧ (0 : RegIdx) ≠ 4 ∧
    (fits 2).cursor + (2 + 0) ≤ windowLen := by decide

theorem witness_SibMod0WithoutBase :
    ((0x04#8 ++ 0x25#8) &&& 0xC73F#16 = BitVec.ofNat 16 (0x0400 + 0x4000 * 0 + 8 * 4 + 5)) ∧
    ((0x04#8 ++ 0xED#8) &&& 0xC73F#16 = BitVec.ofNat 16 (0x0400 + 0x4000 * 0 + 8 * 5 + 5)) ∧
    Instr.sibFields (.a32SibM0B5I4 0 0 0x80000010) = some ⟨0, 5, 4, 0, 0, bytes [0x10, 0, 0, 0x80]⟩ ∧
    Instr.sibFields (.a32SibM0B5I5 0 3 1) = some ⟨0, 5, 5, 0, 3, bytes [1, 0, 0, 0]⟩ ∧
    (fits 6).cursor + (2 + 4) ≤ windowLen := by decide

theorem witness_SibMod1 :
    ((0x7C#8 ++ 0x65#8) &&& 0xC73F#16 = BitVec.ofNat 16 (0x0400 + 0x4000 * 1 + 8 * 4 + 5)) ∧
    ((0x44#8 ++ 0x8D#8) &&& 0xC73F#16 = BitVec.ofNat 16 (0x0400 + 0x4000 * 1 + 8 * 1 + 5)) ∧
    Instr.sibFields (.a32SibM1B5I4 7 1 0xF0) = some ⟨1, 5, 4, 7, 1, bytes [0xF0]⟩ ∧
    Instr.sibFields (.a32SibM1B5I1 0 2 0xF0) = some ⟨1, 5, 1, 0, 2, bytes [0xF0]⟩ ∧
    (fits 3).cursor + (2 + 1) ≤ windowLen := by decide

theorem witness_SibMod2 :
    ((0xBC#8 ++ 0x24#8) &&& 0xC73F#16 = BitVec.ofNat 16 (0x0400 + 0x4000 * 2 + 8 * 4 + 4)) ∧
    ((0x84#8 ++ 0xAD#8) &&& 0xC73F#16 = BitVec.ofNat 16 (0x0400 + 0x4000 * 2 + 8 * 5 + 5)) ∧
    Instr.sibFields (.a32SibM2B4I4 7 0 1) = some ⟨2, 4, 4, 7, 0, bytes [1, 0, 0, 0]⟩ ∧
    Instr.sibFields (.a32SibM2B5I5 0 2 1) = some ⟨2, 5, 5, 0, 2, bytes [1, 0, 0, 0]⟩ ∧
    (fits 6).cursor + (2 + 4) ≤ windowLen := by decide

theorem witness_ScaleIgnoredWithoutIndex :
    Instr.sibFields (.a32SibM0B4I4 0 0) = some ⟨0, 4, 4, 0, 0, []⟩ ∧
    Instr.sibFields (.a32SibM0B4I4 0 3) = some { (⟨0, 4, 4, 0, 0, []⟩ : SibFields) with scale := 3 } := by decide

/-- A form, a SIB form and `Resolve`, each with an SS default and no override pending. -/
theorem witness_OverrideChangesOnlyTheBase :
    resolves (.a16M0Rm2 0) ∧ resolves (.a32SibM1B5I1 0 2 0xF0) ∧ resolves .resolve ∧
    (∃ t, exec (.a16M0Rm2 0) { resolving false none [] with segOverride := none } = .next t ∧
      t.out = .location (.memory .ss 0x2020 0x22020) 0) ∧
    (∃ t, exec .resolve { resolving true none [0x44, 0x8D, 0xF0] with segOverride := none } = .next t ∧
      t.out = .location (.memory .ss 0x2000 0x22000) 0) :=
  ⟨.inl (by decide), .inr (.inl (by decide)), .inr (.inr rfl), ⟨_, rfl, by decide⟩, ⟨_, rfl, by decide⟩⟩

theorem witness_RegFieldLeavesTheAddress :
    (resolving false none [0x46, 0xF0]).win[(resolving false none [0x46, 0xF0]).cursor]? = some 0x46#8 ∧
    ∃ t, exec .resolve (resolving false none [0x46, 0xF0]) = .next t ∧ t.out = .location (.memory .ss 0x1FF0 0x21FF0) 0 :=
  ⟨by decide, _, rfl, by decide⟩

theorem witness_ResolveIsTheDecodedForm :
    (resolving true none [0x44, 0x8D, 0xF0]).win.length = windowLen ∧
    (∃ rest, decodeSpecifier true ((resolving true none [0x44, 0x8D, 0xF0]).win.drop 0) = .ok (.a32SibM1B5I1 0 2 0xF0) rest) ∧
    (let s := { resolving true none [0, 0, 0, 0, 0, 0, 0, 0, 0, 0, 0, 0, 0, 0x84, 0x24, 0x10] with cursor := 13 }
     s.win.length = windowLen ∧ decodeSpecifier s.addressSize32 (s.win.drop s.cursor) = .reject .windowEnds) :=
  ⟨by decide, ⟨_, rfl⟩, by decide, by decide⟩

theorem witness_ResolveCompletes : (fits 6).win.length = windowLen ∧ (fits 6).cursor + 6 ≤ windowLen := by decide

/-- BX, BP, SI, DI in the low halves of other registers. -/
def otherHalves : Vector Word 8 := #v[7, 7, 7, 0x1234FFF0, 7, 0xFFFF2000, 0x10020, 0x20003]

theorem witness_Offset16ReadsLowHalves :
    (let s := resolving false none [0x46, 0xF0]
     let u : State := { s with gpr := otherHalves }
     s.addressSize32 = false ∧ r16 u 3 = r16 s 3 ∧ r16 u 5 = r16 s 5 ∧ r16 u 6 = r16 s 6 ∧ r16 u 7 = r16 s 7 ∧
     ∃ t, exec .resolve s = .next t ∧ t.out = .location (.memory .ss 0x1FF0 0x21FF0) 0) :=
  ⟨by decide, by decide, by decide, by decide, by decide, _, rfl, by decide⟩

theorem witness_ConsumptionPrimitives :
    (fits 1).win.drop (fits 1).cursor = 0 :: [] ∧ (fits 2).win.drop (fits 2).cursor = 0 :: 0 :: [] ∧
    (resolving true none [1, 2, 3, 4]).win.drop 0 = 1#8 :: 2#8 :: 3#8 :: 4#8 :: List.replicate 12 0 := by decide

/-- The displacement, the prefix and the escape's SIB byte just do not fit, a displacement behind a SIB byte neither; directory
and table entries one byte beyond PHYS_SIZE; a 4-byte access that ends one byte beyond it, and one whose walk does; the last
byte of a straddling access and of a straddling window; a directory base of 0xFFF and 1. -/
def smallStore (size : Nat) (a : PortArguments) : State :=
  { unpaged a with a20Mask := 0xFFFFFFFF, cfg := { Config.default with physSize := size }, pmem := [] }

theorem witness_Refusals :
    (∃ r, exec .writePdBase (unpaged (at_ 0 1 .read 0xFFF)) = .refused r) ∧
    (encode (.a16M2Rm1 3 0x1234) = .stream .m16 (bytes [0x99, 0x34, 0x12]) ∧ windowLen < (fits 2).cursor + 3 ∧
     encode .prefixFs = .stream .pfx (bytes [0x64]) ∧ windowLen < (fits 0).cursor + 1) ∧
    ((fits 1).win.length = windowLen ∧ windowLen < (fits 1).cursor + 2 ∧
     (let s := { resolving true none [0, 0, 0, 0, 0, 0, 0, 0, 0, 0, 0, 0x04, 0x25, 0, 0, 0] with cursor := 11 }
      s.win.length = windowLen ∧ s.win[s.cursor + 1]? = some 0x25 ∧
      windowLen < s.cursor + (2 + sibDispLen 0 ((0x25#8).extractLsb' 0 3)))) ∧
    (let s : State := { paged [] (at_ 0x00403ABC 1 .read 0) with cfg := { Config.default with physSize := 0x10007 } }
     s.pdBase ≠ 0 ∧ s.pdBase.toNat % 4096 = 0 ∧ Tcache.find? s.tcache (s.args.linear.toNat / 4096) = none ∧
     s.cfg.physSize < pdeAddress s s.args.linear + 4) ∧
    (let s : State := { paged [] (at_ 0x00403ABC 1 .read 0) with cfg := { Config.default with physSize := 0x1100F } }
     entryAt s (pdeAddress s s.args.linear) = 0x11001 ∧ s.cfg.physSize < pteAddress 0x11001 s.args.linear + 4 ∧
     s.args.linear.toNat % 4096 + s.args.count ≤ 4096 ∧ outOfRange s.args.linear s.args.count .read s) ∧
    (let s := smallStore 0x003FFFFF (at_ 0x003FFFFC 4 .read 0)
     s.args.linear.toNat % 4096 + s.args.count ≤ 4096 ∧ outOfRange s.args.linear s.args.count s.args.kind s ∧
     outOfRange s.args.linear s.args.count .write s) ∧
    (let s := smallStore 0x003FFFFF (at_ 0x003FFFF0 4 .read 0)
     s.args.linear.toNat % 4096 + 16 ≤ 4096 ∧ outOfRange s.args.linear 16 .instructionFetch s) ∧
    (let s := smallStore 0x00300001 (at_ 0x002FFFFF 3 .read 0xCCBBAA)
     s.Inv ∧ (∀ i, i < 2 → storeByteAt s (s.args.linear + BitVec.ofNat 32 i) (0x002FFFFF + BitVec.ofNat 32 i)) ∧
     2 < s.args.count ∧ 4096 < s.args.linear.toNat % 4096 + s.args.count ∧
     outOfRange (s.args.linear + BitVec.ofNat 32 2) 1 s.args.kind s ∧
     outOfRange (s.args.linear + BitVec.ofNat 32 2) 1 .write
       { s with pmem := storeEach s.pmem (fun i => 0x002FFFFF + BitVec.ofNat 32 i) 2 s.args.value } ∧
     4096 < s.args.linear.toNat % 4096 + 16 ∧ outOfRange (s.args.linear + BitVec.ofNat 32 2) 1 .instructionFetch s) ∧
    ((0xFFF : Nat) < 2 ^ 32 ∧ 0xFFF % 4096 ≠ 0 ∧ 1 < 2 ^ 32 ∧ 1 % 4096 ≠ 0) := by
  refine ⟨⟨_, rfl⟩, ⟨by decide, by decide, by decide, by decide⟩, ⟨by decide, by decide, by decide, by decide, by decide⟩,
    by decide, ⟨by decide, by decide, by decide, .inl ⟨_, rfl⟩⟩,
    ⟨by decide, .inr ⟨_, _, rfl, by decide, by decide⟩, .inr ⟨_, _, rfl, by decide, by decide⟩⟩,
    ⟨by decide, .inr ⟨_, _, rfl, by decide, by decide⟩⟩,
    ⟨by decide, fun i hi => ?_, by decide, by decide, .inr ⟨_, _, rfl, by decide, by decide⟩,
      .inr ⟨_, _, rfl, by decide, by decide⟩, by decide, .inr ⟨_, _, rfl, by decide, by decide⟩⟩, by decide⟩
  interval_cases i <;> exact ⟨by decide, by decide, by decide⟩

theorem witness_RegisterViews :
    (3 : RegIdx).toNat < 4 ∧ (0 : RegIdx).toNat < 4 ∧ 4 ≤ (4 : RegIdx).toNat ∧ 4 ≤ (7 : RegIdx).toNat ∧ (4 : RegIdx) ≠ 3 ∧
    (4 : RegIdx) ≠ 4 - 4 := by decide

theorem witness_PrefixesSetPendingState : (fits 1).cursor + 1 ≤ windowLen ∧ (prefixed 0x26).cursor + 1 ≤ windowLen := by decide

theorem witness_TranslateUnpaged :
    (unpaged (at_ 0x0010FFEF 1 .read 0)).pdBase = 0 ∧ (unpaged (at_ 0x0010FFEF 1 .read 0)).a20Mask = 0x000FFFFF#32 ∧
    (let s : State := { unpaged (at_ 0xFFFFFFFF 1 .read 0) with a20Mask := 0xFFFFFFFF }
     s.pdBase = 0 ∧ s.a20Mask = 0xFFFFFFFF#32) := by decide

theorem witness_TranslateHit :
    (let s := paged [(0xFFFFF, 0x45000)] (at_ 0xFFFFFFFF 1 .write 0)
     s.pdBase ≠ 0 ∧ Tcache.find? s.tcache (s.args.linear.toNat / 4096) = some 0x45000 ∧ (0x45000 : Word).toNat % 4096 = 0) := by
  decide

/-- §2.5 steps 1 and 6: the first and the last indexes. -/
theorem witness_TranslateWalk :
    (let s := paged [] (at_ 0x00403ABC 1 .read 0)
     s.pdBase ≠ 0 ∧ s.pdBase.toNat % 4096 = 0 ∧ Tcache.find? s.tcache (s.args.linear.toNat / 4096) = none ∧
     pdeAddress s s.args.linear + 4 ≤ s.cfg.physSize ∧ entryAt s (pdeAddress s s.args.linear) = 0x11001 ∧
     pteAddress 0x11001 s.args.linear + 4 ≤ s.cfg.physSize ∧ entryAt s (pteAddress 0x11001 s.args.linear) = 0x45001) ∧
    (let s := paged [] (at_ 0xFFFFFFFF 1 .write 0)
     entryAt s (pdeAddress s s.args.linear) % 2 = 1 ∧
     entryAt s (pteAddress (entryAt s (pdeAddress s s.args.linear)) s.args.linear) = 0x47003) := by decide

/-- §2.5 steps 3 and 7: a table entry and a directory entry not present. -/
theorem witness_TranslateFault :
    (let s := paged [] (at_ 0x00404000 1 .read 0)
     s.pdBase ≠ 0 ∧ s.pdBase.toNat % 4096 = 0 ∧ Tcache.find? s.tcache (s.args.linear.toNat / 4096) = none ∧
     pdeAddress s s.args.linear + 4 ≤ s.cfg.physSize ∧ entryAt s (pdeAddress s s.args.linear) = 0x11001 ∧
     pteAddress 0x11001 s.args.linear + 4 ≤ s.cfg.physSize ∧ entryAt s (pteAddress 0x11001 s.args.linear) % 2 = 0) ∧
    (let s := paged [] (at_ 0x00800000 1 .write 0)
     pdeAddress s s.args.linear + 4 ≤ s.cfg.physSize ∧ entryAt s (pdeAddress s s.args.linear) % 2 = 0) := by decide

theorem witness_AccessKindOnlyInPayload :
    (∃ t, exec .translate (paged [] (at_ 0x00403ABC 1 .read 0)) = .next t) ∧
    (∃ t, exec .translate (paged [] (at_ 0x00404000 1 .read 0)) = .next t) := ⟨⟨_, rfl⟩, ⟨_, rfl⟩⟩

theorem witness_A20WithoutEffectWhilePaging :
    (paged [] (at_ 0x00403ABC 1 .read 0)).pdBase ≠ 0 ∧
    (∃ t, exec .translate (paged [] (at_ 0x00403ABC 1 .read 0)) = .next t) ∧
    (∃ t, exec .memRead (paged [] (at_ 0x00403FFE 4 .read 0)) = .next t) ∧
    (∃ t, exec .memWrite (paged [] (at_ 0x00403FFE 4 .read 0)) = .next t) ∧
    (∃ t, exec .fetchWindow (paged [] (at_ 0x00403FF8 1 .read 0)) = .next t) :=
  ⟨by decide, ⟨_, rfl⟩, ⟨_, rfl⟩, ⟨_, rfl⟩, ⟨_, rfl⟩⟩

/-- §2.6: bytes 0xFFFFF and 0x100000, which wraps to 0 with the A20 gate disabled. -/
theorem witness_reachable_unpaged :
    (unpaged (at_ 0xFFFFF 2 .read 0)).Inv ∧
    ∀ i, i < 2 → storeByteAt (unpaged (at_ 0xFFFFF 2 .read 0)) (0xFFFFF + BitVec.ofNat 32 i)
      (if i = 0 then 0xFFFFF else 0) := by
  refine ⟨by decide, fun i hi => ?_⟩
  interval_cases i <;> exact ⟨by decide, by decide, by decide⟩

theorem witness_MemReadOfReachableBytes :
    ∃ (s : State) (p : Nat → Word), s.Inv ∧ 1 ≤ s.args.count ∧
      ∀ i, i < s.args.count → storeByteAt s (s.args.linear + BitVec.ofNat 32 i) (p i) :=
  ⟨unpaged (at_ 0xFFFFF 2 .read 0), fun i => if i = 0 then 0xFFFFF else 0, witness_reachable_unpaged.1, by decide,
    witness_reachable_unpaged.2⟩

/-- A cached page: the bytes at 0x00403FFC and 0x00403FFD of §2.6. -/
theorem witness_reachable_cached :
    (paged [(0x403, 0x45000)] (at_ 0x00403FFC 2 .read 0xBEEF)).Inv ∧
    ∀ i, i < 2 → storeByteAt (paged [(0x403, 0x45000)] (at_ 0x00403FFC 2 .read 0xBEEF)) (0x00403FFC + BitVec.ofNat 32 i)
      (0x45FFC + BitVec.ofNat 32 i) := by
  refine ⟨by decide, fun i hi => ?_⟩
  interval_cases i <;> exact ⟨by decide, by decide, by decide⟩

theorem witness_MemWriteOfReachableBytes :
    ∃ (s : State) (p : Nat → Word), s.Inv ∧ 1 ≤ s.args.count ∧ s.pdBase ≠ 0 ∧
      ∀ i, i < s.args.count → storeByteAt s (s.args.linear + BitVec.ofNat 32 i) (p i) :=
  ⟨paged [(0x403, 0x45000)] (at_ 0x00403FFC 2 .read 0xBEEF), fun i => 0x45FFC + BitVec.ofNat 32 i,
    witness_reachable_cached.1, by decide, by decide, witness_reachable_cached.2⟩

/-- §2.6: a store that faults half-way, and one that straddles into the VRAM window. -/
theorem witness_MemWriteFrame :
    (∃ t, exec .memWrite (paged [] (at_ 0x00403FFE 4 .read 0xAABBCCDD)) = .next t) ∧
    (∃ t, exec .memWrite (unpaged (at_ 0x9FFFF 2 .read 0xBEEF)) = .next t) ∧
    storeTargets 0x9FFFF (bytes [0xEF, 0xBE]) (unpaged (at_ 0x9FFFF 2 .read 0xBEEF)) = [0x9FFFF] ∧
    storeTargets 0x00403FFE (bytes [0xDD, 0xCC, 0xBB, 0xAA]) (paged [] (at_ 0x00403FFE 4 .read 0xAABBCCDD)) =
      [0x45FFE, 0x45FFF] := ⟨⟨_, rfl⟩, ⟨_, rfl⟩, by decide, by decide⟩

/-- §2.6: the third byte of the store at 0x00403FFE lies in a page that is not present. -/
theorem witness_StraddlingStoreKeepsEarlierBytes :
    (let s := paged [(0x403, 0x45000)] (at_ 0x00403FFE 4 .read 0xAABBCCDD)
     s.Inv ∧ 2 < s.args.count ∧ 4096 < s.args.linear.toNat % 4096 + s.args.count ∧
     (∀ i, i < 2 → storeByteAt s (s.args.linear + BitVec.ofNat 32 i) (0x45FFE + BitVec.ofNat 32 i)) ∧
     ∃ v, translate (s.args.linear + BitVec.ofNat 32 2) .write
       { s with pmem := storeEach s.pmem (fun i => 0x45FFE + BitVec.ofNat 32 i) 2 s.args.value } =
         .pageFault 0x00404000 .write v) := by
  refine ⟨by decide, by decide, by decide, fun i hi => ?_, _, rfl⟩
  interval_cases i <;> exact ⟨by decide, by decide, by decide⟩

/-- The last byte below, the first and the last byte of the window, and the first above it. -/
theorem witness_OneTranslateOneAccess :
    (∃ u, translate 0xA0000 .read (unpaged (at_ 0xA0000 1 .read 0)) = .ok 0xA0000 u) ∧
    (∃ u, translate 0xBFFFF .write (unpaged (at_ 0xBFFFF 1 .read 0)) = .ok 0xBFFFF u) ∧
    (∃ u, translate 0x9FFFF .read (unpaged (at_ 0x9FFFF 1 .read 0)) = .ok 0x9FFFF u) ∧
    (∃ u, translate 0xC0000 .write (unpaged (at_ 0xC0000 1 .read 0)) = .ok 0xC0000 u) ∧
    Config.default.vramBase = 0xA0000 ∧ Config.default.vramBase + Config.default.vramSize = 0xC0000 ∧
    0xC0000 + 1 ≤ Config.default.physSize :=
  ⟨⟨_, rfl⟩, ⟨_, rfl⟩, ⟨_, rfl⟩, ⟨_, rfl⟩, by decide, by decide, by decide⟩

theorem witness_WindowTestByFirstByte :
    (unpaged (at_ 0x9FFFC 4 .read 0)).Inv ∧ (0x9FFFC : Word).toNat % 4096 + 4 ≤ 4096 ∧
    ∃ u, translate 0x9FFFC .read (unpaged (at_ 0x9FFFC 4 .read 0)) = .ok 0x9FFFC u := ⟨by decide, by decide, _, rfl⟩

theorem witness_FetchWindowOfReachableBytes :
    ∃ (s : State) (p : Nat → Word), s.Inv ∧ ∀ k, k < 16 → storeByteAt s (s.args.linear + BitVec.ofNat 32 k) (p k) := by
  refine ⟨unpaged (at_ 0xFF8 1 .read 0), fun k => 0xFF8 + BitVec.ofNat 32 k, by decide, fun k hk => ?_⟩
  interval_cases k <;> exact ⟨by decide, by decide, by decide⟩

theorem witness_WritePdBaseClearsCache : (0xFFFFF000 : Nat) < 2 ^ 32 ∧ 0xFFFFF000 % 4096 = 0 ∧ 0 % 4096 = 0 := by decide

theorem witness_FlushCacheClearsCache : ∃ t, exec .flushCache (paged [(0x403, 0x45000)] .idle) = .next t := ⟨_, rfl⟩

theorem witness_SetA20SetsMask :
    PortArguments.idle.enabled = false ∧ { PortArguments.idle with enabled := true }.enabled = true := by decide

/-- R310: a store into the table entry of a cached page. -/
theorem witness_CacheEntriesStayUntilCleared :
    (let s := paged [(0x11, 0x11000), (0x403, 0x45000)] (at_ 0x1100C 2 .read 0x5002)
     (∃ t, exec .memWrite s = .next t) ∧ s.pdBase ≠ 0 ∧
       Tcache.find? s.tcache ((0x00403ABC : Word).toNat / 4096) = some 0x45000) := ⟨⟨_, rfl⟩, by decide, by decide⟩

theorem witness_FlagsNeitherReadNorWritten : ∃ t, exec .prefixEs (prefixed 0x26) = .next t := ⟨_, rfl⟩

theorem witness_ExecFrame :
    (∃ t, exec .memWrite (paged [] (at_ 0x00403FFE 4 .read 0xAABBCCDD)) = .next t) ∧
    (∃ t, exec .reset (paged [] .idle) = .next t) ∧ (∃ t, exec .resolve (resolving true none [0x04, 0x88]) = .next t) :=
  ⟨⟨_, rfl⟩, ⟨_, rfl⟩, ⟨_, rfl⟩⟩

theorem not_prefix_of {win : List Byte} {e : DecodeError} (h : decodePrefix win = .reject e) :
    ∀ i left, decodePrefix win ≠ .ok i left := by
  intro i left h'
  rw [h] at h'
  cases h'

theorem witness_AddressingFaultOnRegisterForm :
    (∃ win t, dispatches (running [0x01, 0xD8] (.cycle (.entry (only memOnly) (handled 0)))) memOnly (handled 0) [] win t ∧
      win[memOnly.opcodeLen]? = some 0xD8#8) ∧
    (∃ win t, dispatches (running [0x8D, 0xC0] (.cycle (.entry (only lea) (handled 0)))) lea (handled 0) [] win t ∧
      win[lea.opcodeLen]? = some 0xC0#8) ∧
    memOnly.specifier = .onlyExtraDigit (.location .memoryOnly .two .input) ∧
    lea.specifier = .full .two .output .effectiveAddress ∧ 0xD8#8 &&& 0xC0#8 = 0xC0#8 ∧ 0xC0#8 &&& 0xC0#8 = 0xC0#8 :=
  ⟨⟨_, _, ⟨only memOnly, ⟨rfl, rfl, not_prefix_of (e := .notPrefix 1) (by decide)⟩, by decide⟩, by decide⟩,
   ⟨_, _, ⟨only lea, ⟨rfl, rfl, not_prefix_of (e := .notPrefix 0x8D) (by decide)⟩, by decide⟩, by decide⟩,
   rfl, rfl, by decide, by decide⟩

theorem witness_DispatchFaults :
    (∃ win t, fetched (running [0x0F, 0xFF] (.cycle (.noEntry 1))) (.noEntry 1) [] win t) ∧
    (let s : State := { running [0x01, 0xD8] (.cycle (.entry (only addRm16) (handled 8))) with
       addressSize32 := true, operandSize32 := true }
     (∃ win t, fetched s (.entry (only addRm16) (handled 8)) [] win t) ∧ slotNumber s = 3 ∧
       (only addRm16)[slotNumber s]? = some none) ∧
    (let s : State := { paged [] .idle with ip := 0x00403FF8, requests := [.cycle (.noEntry 0)] }
     ∃ t, fetchWindow (s.baseOf .cs + s.ip) { s with requests := [] } = .pageFault 0x00404000 .instructionFetch t) :=
  ⟨⟨_, _, rfl, rfl, not_prefix_of (e := .notPrefix 0x0F) (by decide)⟩,
   ⟨⟨_, _, rfl, rfl, not_prefix_of (e := .notPrefix 1) (by decide)⟩, by decide, by decide⟩, ⟨_, rfl⟩⟩

/-- A cycle at 0x00403FF8: the window reaches a page that is not present at its ninth byte. -/
def fetchFaulting : State :=
  { paged [] .idle with ip := 0x00403FF8, requests := [.cycle (.entry (only addRm16) (handled 8))] }

theorem witness_FetchFaultComesFirst :
    ∃ t, fetchWindow (fetchFaulting.baseOf .cs + fetchFaulting.ip) { fetchFaulting with requests := [] } =
      .pageFault 0x00404000 .instructionFetch t := ⟨_, rfl⟩

/-- The reads of a cycle whose fetch and resolve evaluate. -/
theorem operandsRead_of {s : State} {d : Descriptor} {h : HandlerAnswer} {rest : List Request} {loc : Option (Location × RegIdx)}
    {imm : List Byte} {implicit : List (Option Nat)} {rm : Option Nat} {v : State} {win left : List Byte} {t u mid : State}
    (h1 : s.requests = .cycle (.entry (only d) h) :: rest)
    (h2 : fetchWindow (s.baseOf .cs + s.ip) { s with requests := rest } = .ok win t)
    (h3 : ∃ e, decodePrefix win = .reject e) (h4 : slotNumber s = 0) (h5 : d.opcodeLen ≤ 16)
    (h6 : located d.specifier loc { t with cursor := d.opcodeLen } u) (h7 : u.win.drop u.cursor = imm ++ left)
    (h8 : imm.length = immediateBytes d.immediates)
    (h9 : implicitLoads d.implicit implicit { u with cursor := u.cursor + imm.length } mid)
    (h10 : operandLoads (rmOperand d.specifier) loc rm mid v) : operandsRead s d h rest loc imm implicit rm v :=
  ⟨win, left, t, u, mid, ⟨only d, ⟨h1, h2, not_prefix_of h3.choose_spec⟩, by rw [h4]; rfl⟩, h5, h6, h7, h8, h9, h10⟩

/-- The reads of `threeWriting`: the first implicit operand alone. -/
theorem threeWriting_read : ∃ v, operandsRead (threeWriting 0x00403800) threeWrites
    { handled 0x1234 with implicit := [0xBEEF, 0xAABBCCDD] } [] (some (.memory .ds 0 0x00404000, 0)) [] [some 0, none] none v ∧
    ∃ y, implicitStores threeWrites.implicit [0xBEEF, 0xAABBCCDD] (registersWrittenBack threeWrites (handled 0x1234)
      (some (.memory .ds 0 0x00404000, 0)) (afterHandler (handled 0x1234) v)) y ∧
      ∃ z, memWrite 0x00404000 (leBytes 2 0x1234) y = .pageFault 0x00404000 .write z :=
  ⟨_, operandsRead_of rfl rfl ⟨_, rfl⟩ (by decide) (by decide) ⟨_, _, rfl, rfl⟩ rfl (by decide)
      ⟨_, ⟨_, rfl, by decide⟩, _, ⟨rfl, rfl⟩, rfl, rfl⟩ ⟨trivial, rfl, rfl⟩, _, ⟨_, rfl, _, rfl, rfl⟩, _, rfl⟩

/-- A register form with a fixed operand and two immediates; a memory form with a reg field; a memory offset with an immediate;
an instruction without operands; implicit operands whose write-backs complete (`threeWriting_read`); a handler that flushes the
cache; one that writes the base. -/
theorem witness_OperandReadHandlerWriteBack :
    (∃ v y x, operandsRead (running [0x81, 0xC0, 0x34, 0x12, 0x05] (.cycle (.entry (only immediateForm) (handled 9))))
        immediateForm (handled 9) [] (some (.register 0, 0)) (bytes [0x34, 0x12, 0x05]) [] (some 5) v ∧
      implicitStores immediateForm.implicit [] (registersWrittenBack immediateForm (handled 9) (some (.register 0, 0))
        (afterHandler (handled 9) v)) y ∧
      operandStores (rmOperand immediateForm.specifier) (some (.register 0, 0)) 9 y x) ∧
    (∃ v y x, operandsRead (running [0x01, 0x00] (.cycle (.entry (only addRm16) (handled 0x104)))) addRm16 (handled 0x104) []
        (some (.memory .ds 0x23 0x10023, 0)) [] [] (some 0xFF) v ∧
      implicitStores addRm16.implicit [] (registersWrittenBack addRm16 (handled 0x104) (some (.memory .ds 0x23 0x10023, 0))
        (afterHandler (handled 0x104) v)) y ∧
      operandStores (rmOperand addRm16.specifier) (some (.memory .ds 0x23 0x10023, 0)) 0x104 y x) ∧
    (∃ v, operandsRead (running [0xA1, 0x23, 0x00, 0x7F] (.cycle (.entry (only offsetForm) (handled 0)))) offsetForm (handled 0) []
        (some (.memory .ds 0x23 0x10023, 0)) (bytes [0x7F]) [] (some 0xFF) v ∧
      ∀ y, operandStores (rmOperand offsetForm.specifier) (some (.memory .ds 0x23 0x10023, 0)) 0 y y) ∧
    (∃ v, operandsRead (running [0x90] (.cycle (.entry (only { addRm16 with specifier := .none }) (handled 0))))
        { addRm16 with specifier := .none } (handled 0) [] none [] [] none v ∧
      ∀ y, implicitStores [] [] y y ∧ operandStores (rmOperand .none) none 0 y y) ∧
    (∃ v x, operandsRead (staleOperand [.flushCache]) addRm16 { handled 0x1234 with operations := [.flushCache] } []
        (some (.memory .ds 0 0x00403800, 0)) [] [] (some 0) v ∧
      operandStores (rmOperand addRm16.specifier) (some (.memory .ds 0 0x00403800, 0)) 0x1234
        (afterHandler { handled 0x1234 with operations := [.flushCache] } v) x) ∧
    basesAligned { handled 0 with operations := [.setA20 true, .flushCache, .writePdBase 0xFFFFF000] } := by
  refine ⟨⟨_, _, _, operandsRead_of rfl rfl ⟨_, rfl⟩ (by decide) (by decide) ⟨_, _, rfl, rfl⟩ rfl (by decide) ⟨rfl, rfl⟩
      ⟨trivial, .two, rfl, by decide, rfl⟩, rfl, ⟨.two, rfl, rfl⟩⟩,
    ⟨_, _, _, operandsRead_of rfl rfl ⟨_, rfl⟩ (by decide) (by decide) ⟨_, _, rfl, rfl⟩ rfl (by decide) ⟨rfl, rfl⟩
      ⟨trivial, _, rfl, by decide⟩, rfl, rfl⟩,
    ⟨_, operandsRead_of rfl rfl ⟨_, rfl⟩ (by decide) (by decide) ⟨bytes [0x23, 0x00], _, rfl, by decide, by decide, rfl⟩ rfl
      (by decide) ⟨rfl, rfl⟩ ⟨trivial, _, rfl, by decide⟩, fun y => rfl⟩,
    ⟨_, operandsRead_of rfl rfl ⟨_, rfl⟩ (by decide) (by decide) ⟨rfl, rfl⟩ rfl (by decide) ⟨rfl, rfl⟩ ⟨rfl, rfl⟩,
      fun y => ⟨rfl, rfl⟩⟩,
    ⟨_, _, operandsRead_of rfl rfl ⟨_, rfl⟩ (by decide) (by decide) ⟨_, _, rfl, rfl⟩ rfl (by decide) ⟨rfl, rfl⟩
      ⟨trivial, _, rfl, by decide⟩, rfl⟩, fun b hb => ?_⟩
  have : b = 0xFFFFF000 := by simpa using hb
  rw [this]
  decide

/-- An implicit inout operand in the page 0x403 and an r/m output in the page 0x404, which faults; and an inout r/m operand in the
page 0x403 with an implicit output in the page 0x404. -/
theorem witness_InoutWriteBackDoesNotFault :
    ((∃ v, operandsRead (threeWriting 0x00403800) threeWrites { handled 0x1234 with implicit := [0xBEEF, 0xAABBCCDD] } []
        (some (.memory .ds 0 0x00404000, 0)) [] [some 0, none] none v) ∧
      (∃ x, step (threeWriting 0x00403800) = .next x ∧ x.out = .pageFault 0x00404000 .write) ∧
      implicitAt (threeWriting 0x00403800) ⟨.ss, 0x10, .two, .inout⟩ = .memory .ss 0x10 0x00403810 ∧
      (0x00403810 : Word).toNat % 4096 + Width.two.bytes ≤ 4096) ∧
    (let d : Descriptor := { addRm16 with implicit := [⟨.ss, 0, .two, .output⟩] }
     let h : HandlerAnswer := { handled 0x1234 with implicit := [7], operations := [.setA20 true] }
     let s : State := { staleOperand [] with
       segBase := #v[0, 0, 0x00404000, 0x00403800, 0, 0], requests := [.cycle (.entry (only d) h)] }
     (∃ v, operandsRead s d h [] (some (.memory .ds 0 0x00403800, 0)) [] [none] (some 0) v) ∧
     (∀ op ∈ h.operations, ∃ enabled, op = .setA20 enabled) ∧
     (∃ x, step s = .next x ∧ x.out = .pageFault 0x00404000 .write) ∧
     rmOperand d.specifier = some (.location .registerOrMemory .two .inout) ∧
     (0x00403800 : Word).toNat % 4096 + Width.two.bytes ≤ 4096) :=
  ⟨⟨⟨_, threeWriting_read.choose_spec.1⟩, ⟨_, rfl, rfl⟩, by decide, by decide⟩,
   ⟨_, operandsRead_of rfl rfl ⟨_, rfl⟩ (by decide) (by decide) ⟨_, _, rfl, rfl⟩ rfl (by decide) ⟨_, ⟨rfl, rfl⟩, rfl, rfl⟩
      ⟨trivial, _, rfl, by decide⟩⟩, fun op h => ⟨true, by simpa using h⟩, ⟨_, rfl, rfl⟩, rfl, by decide⟩

/-- The r/m write-back that faults after two implicit ones (`threeWriting_read`), and the second implicit one that faults after the
first. -/
theorem witness_FaultingWriteBackKeepsEarlierOnes :
    (∃ v y z, operandsRead (threeWriting 0x00403800) threeWrites { handled 0x1234 with implicit := [0xBEEF, 0xAABBCCDD] } []
        (some (.memory .ds 0 0x00404000, 0)) [] [some 0, none] none v ∧
      implicitStores threeWrites.implicit [0xBEEF, 0xAABBCCDD] (registersWrittenBack threeWrites (handled 0x1234)
        (some (.memory .ds 0 0x00404000, 0)) (afterHandler (handled 0x1234) v)) y ∧
      memWrite 0x00404000 (leBytes 2 0x1234) y = .pageFault 0x00404000 .write z) ∧
    (∃ v y z, operandsRead (threeWriting 0x00403FEC) threeWrites { handled 0x1234 with implicit := [0xBEEF, 0xAABBCCDD] } []
        (some (.memory .ds 0 0x00404000, 0)) [] [some 0, none] none v ∧
      threeWrites.implicit = [⟨.ss, 0x10, .two, .inout⟩] ++ ⟨.ss, 0x14, .four, .output⟩ :: [] ∧
      [0xBEEF].length = [(⟨.ss, 0x10, .two, .inout⟩ : ImplicitOperand)].length ∧
      implicitAt (threeWriting 0x00403FEC) ⟨.ss, 0x14, .four, .output⟩ = .memory .ss 0x14 0x00404000 ∧
      implicitStores [⟨.ss, 0x10, .two, .inout⟩] [0xBEEF] (registersWrittenBack threeWrites (handled 0x1234)
        (some (.memory .ds 0 0x00404000, 0)) (afterHandler (handled 0x1234) v)) y ∧
      memWrite 0x00404000 (leBytes 4 0xAABBCCDD) y = .pageFault 0x00404000 .write z) ∧
    basesAligned (handled 0x1234) :=
  ⟨⟨_, _, _, threeWriting_read.choose_spec.1, threeWriting_read.choose_spec.2.choose_spec.1,
      threeWriting_read.choose_spec.2.choose_spec.2.choose_spec⟩,
   ⟨_, _, _, operandsRead_of rfl rfl ⟨_, rfl⟩ (by decide) (by decide) ⟨_, _, rfl, rfl⟩ rfl (by decide)
      ⟨_, ⟨_, rfl, by decide⟩, _, ⟨rfl, rfl⟩, rfl, rfl⟩ ⟨trivial, rfl, rfl⟩, rfl, rfl, by decide, ⟨_, rfl, rfl⟩, rfl⟩,
   fun _ h => by cases h⟩

theorem witness_EffectiveAddressOperand :
    (∃ win t u, dispatches (running [0x8D, 0x46, 0xF0] (.cycle (.entry (only lea) (handled 0)))) lea (handled 0) [] win t ∧
      resolve { t with cursor := 1 } = .ok (.memory .ss 0x1FF0 0x21FF0, 0) u) ∧
    (∃ win t u, dispatches (running [0x8D, 0xC0] (.cycle (.entry (only lea) (handled 0)))) lea (handled 0) [] win t ∧
      resolve { t with cursor := 1 } = .ok (.register 0, 0) u) ∧
    lea.implicit = [] ∧ basesAligned (handled 0) :=
  ⟨⟨_, _, _, ⟨only lea, ⟨rfl, rfl, not_prefix_of (e := .notPrefix 0x8D) (by decide)⟩, by decide⟩, rfl⟩,
   ⟨_, _, _, ⟨only lea, ⟨rfl, rfl, not_prefix_of (e := .notPrefix 0x8D) (by decide)⟩, by decide⟩, rfl⟩,
   rfl, fun _ h => by cases h⟩

/-- §2.4: stream `34 12` in 16-bit mode; the last four bytes of the window in 32-bit mode. -/
theorem witness_MemoryOffsetOperand :
    (let s := resolving false none [0x34, 0x12]
     s.win.drop s.cursor = bytes [0x34, 0x12] ++ List.replicate 14 0 ∧ 2 = (if s.addressSize32 then 4 else 2)) ∧
    ((fits 4).win.drop (fits 4).cursor = bytes [0, 0, 0, 0] ++ [] ∧ 4 = (if (fits 4).addressSize32 then 4 else 2)) := by
  refine ⟨⟨?_, ?_⟩, ?_, ?_⟩ <;> decide

theorem witness_CompletedInstructionAdvancesIp :
    ∃ t values, step (running [0x01, 0xD8] (.cycle (.entry (only addRm16) (handled 8)))) = .next t ∧ t.out = .operands values :=
  ⟨_, _, rfl, rfl⟩

/-- The handler of the second run overwrites EBX and ESI, both in the address of `[BX+SI]`. -/
theorem witness_WriteBackLocationResolvedOnce :
    (∃ t, step (running [0x01, 0x00] (.cycle (.entry (only addRm16) (handled 0x104)))) = .next t) ∧
    (∃ t, step { running [0x01, 0x00] (.cycle (.entry (only addRm16) (handled 0x104))) with
       requests := [.cycle (.entry (only addRm16) { handled 0x104 with gprWrites := [(3, 0x999), (6, 0x777)], flags := 1 })] } =
      .next t) := ⟨⟨_, rfl⟩, ⟨_, rfl⟩⟩

/-- A cycle in the cached page 0x403, bytes `00 00`, whose operand `[BX+SI]` lies in page 0x404, not present. -/
def faultingOperand (dir : Direction) : State :=
  { paged [(0x403, 0x46000)] .idle with
    gpr := #v[0, 0, 0, 0, 0, 0, 0, 0], ip := 0x00403000, segBase := #v[0, 0, 0, 0x00404000, 0, 0],
    requests := [.cycle (.entry (only { addRm16 with specifier := .full .two .input (.location .registerOrMemory .two dir) })
      (handled 8))] }

theorem witness_CyclePageFault :
    (∃ t, step (faultingOperand .inout) = .next t ∧ t.out = .pageFault 0x00404000 .read) ∧
    (∃ t, step (faultingOperand .output) = .next t ∧ t.out = .pageFault 0x00404000 .write) ∧
    (∃ t, step fetchFaulting = .next t ∧ t.out = .pageFault 0x00404000 .instructionFetch) ∧
    (∃ t, step (staleOperand [.writePdBase 0x50000]) = .next t ∧ t.out = .pageFault 0x00403800 .write) :=
  ⟨⟨_, rfl, rfl⟩, ⟨_, rfl, rfl⟩, ⟨_, rfl, rfl⟩, ⟨_, rfl, rfl⟩⟩

theorem witness_StepRunsDecodedInstruction :
    (decodePort 3 = .ok .memWrite [] ∧ Instr.wellFormed (at_ 0x9FFFF 2 .read 0xBEEF) .memWrite = true) ∧
    (∃ left, decodeSpecifier true ((resolving true none [0x44, 0x8D, 0xF0]).win.drop 0) = .ok (.a32SibM1B5I1 0 2 0xF0) left) ∧
    (∃ left, decodePrefix ((prefixed 0x64).win.drop 0) = .ok .prefixFs left) ∧
    (let s := running [0x26, 0x01, 0xD8] (.cycle (.noEntry 0))
     ∃ win t left, fetchWindow (s.baseOf .cs + s.ip) { s with requests := [] } = .ok win t ∧
       decodePrefix win = .ok .prefixEs left) ∧ State.reset.requests = [] :=
  ⟨by decide, ⟨_, rfl⟩, ⟨_, rfl⟩, ⟨_, _, _, rfl, rfl⟩, rfl⟩

theorem witness_EncodeOfDecode :
    (∃ rest, decode .m32s (bytes [0x44, 0x8D, 0xF0, 0x99]) = .ok (.a32SibM1B5I1 0 2 0xF0) rest) ∧
    decode .m32 (bytes [0x04]) = .ok (.a32SibM0 0) [] ∧ decode .pfx (bytes [0x67]) = .ok .prefixAddrsize [] ∧
    decode .m16 (bytes [0x06, 0x34, 0x12]) = .ok (.a16M0Rm6 0 0x1234) [] := ⟨⟨_, rfl⟩, by decide, by decide, by decide⟩

theorem reset_inv : State.reset.Inv := by decide

/-- A state with paging on and a filled cache meets the invariant and steps. -/
theorem witness_EveryStepKeepsInvariant :
    (faultingOperand .output).Inv ∧ (∃ t, step (faultingOperand .output) = .next t) ∧
    (running [0x01, 0x00] (.cycle (.entry (only addRm16) (handled 0x104)))).Inv ∧
    ∃ t, step (running [0x01, 0x00] (.cycle (.entry (only addRm16) (handled 0x104)))) = .next t :=
  ⟨by decide, ⟨_, rfl⟩, by decide, ⟨_, rfl⟩⟩

theorem witness_OnlyCyclesRaiseTerminalFaults :
    ∀ r ∈ (prefixed 0x64).requests, ∀ answer, r ≠ .cycle answer := by
  intro r hr answer
  have : r = .decode .prefixByte := by simpa [prefixed] using hr
  rw [this]
  simp

end Sys2Proof.Tests
end

/-! PROOFS. The page offset and alignment of a translated address, and that a non-straddling access lies wholly inside or
outside the VRAM window (R73). -/

namespace Sys2Proof.Machine

/-! ### Page offsets and page bases as numbers -/

@[simp] theorem pageOffset_toNat (l : Word) : (pageOffset l).toNat = l.toNat % 4096 :=
  (BitVec.toNat_and l 0xFFF#32).trans (Nat.and_two_pow_sub_one_eq_mod l.toNat 12)

/-- Bits 11:0 are zero exactly for the multiples of 4096. -/
theorem aligned_iff (b : Word) : b &&& 0xFFF#32 = 0#32 ↔ b.toNat % 4096 = 0 := by
  rw [← BitVec.toNat_inj, ← pageOffset_toNat]; rfl

theorem entryBase_aligned (e : Word) : entryBase e &&& 0xFFF#32 = 0#32 := by
  have masks : 0xFFFFF000#32 &&& 0xFFF#32 = 0#32 := by decide
  simp only [entryBase, BitVec.and_assoc, masks, BitVec.and_zero]

/-- A page base joined with a page offset has that offset. -/
theorem or_pageOffset_mod {b : Word} (l : Word) (hb : b &&& 0xFFF#32 = 0#32) :
    (b ||| pageOffset l).toNat % 4096 = l.toNat % 4096 := by
  have hb' : b.toNat % 2 ^ 12 = 0 := (aligned_iff b).mp hb
  rw [BitVec.toNat_or, show (4096 : Nat) = 2 ^ 12 from rfl, Nat.or_mod_two_pow, hb', Nat.zero_or, pageOffset_toNat]
  exact Nat.mod_mod _ _

/-- Both A20 masks leave bits 11:0 of an address (R23). -/
theorem and_a20Mask_mod {m : Word} (l : Word) (hm : m = 0x000FFFFF#32 ∨ m = 0xFFFFFFFF#32) :
    (l &&& m).toNat % 4096 = l.toNat % 4096 := by
  have hm' : m.toNat % 2 ^ 12 = 2 ^ 12 - 1 := by rcases hm with rfl | rfl <;> rfl
  rw [BitVec.toNat_and, show (4096 : Nat) = 2 ^ 12 from rfl, Nat.and_mod_two_pow, hm',
    Nat.and_two_pow_sub_one_eq_mod, Nat.mod_mod]

/-- `Translate` leaves the page offset of the address, whichever of its three ways it takes (R227, R229, R236). -/
theorem translate_pageOffset {l p : Word} {kind : AccessKind} {s t : State} (hs : s.Inv)
    (h : translate l kind s = .ok p t) : p.toNat % 4096 = l.toNat % 4096 := by
  obtain ⟨-, -, hmask, hcache, -⟩ := hs
  rcases translate_ok h with ⟨-, rfl, -⟩ | ⟨-, base, hfind, rfl, -⟩ | ⟨-, -, hwalk⟩
  · exact and_a20Mask_mod l hmask
  · exact or_pageOffset_mod l (Tcache.find?_aligned hcache hfind)
  · obtain ⟨_, pte, -, -, -, -, rfl, -⟩ := walk_ok hwalk
    exact or_pageOffset_mod l (entryBase_aligned pte)

/-- The VRAM window begins and ends at page boundaries (R6): the bytes of one page are all in it or all outside. -/
theorem inVram_samePage {c : Config} {p q : Word} (hc : c.wf) (h : p.toNat / 4096 = q.toNat / 4096) :
    inVram c p = inVram c q := by
  obtain ⟨-, -, hbase, hsize, -, -⟩ := hc
  rw [pageSize] at hbase hsize
  have hlow : c.vramBase ≤ p.toNat ↔ c.vramBase ≤ q.toNat := by omega
  have hhigh : p.toNat < c.vramBase + c.vramSize ↔ q.toNat < c.vramBase + c.vramSize := by omega
  simp only [inVram, hlow, hhigh]

/-- Settles O34: translation keeps the page offset, so the bytes of the access stay in the physical page of the first, and the
window's bounds are page boundaries. -/
theorem windowTestByFirstByte : Obligations.WindowTestByFirstByte := by
  intro s u l p n j kind hs hfit h hj
  have hcfg : s.cfg.wf := hs.1
  have hoff : p.toNat % 4096 = l.toNat % 4096 := translate_pageOffset hs h
  have hp : p.toNat < 2 ^ 32 := p.isLt
  have hfit' : p.toNat + j < 2 ^ 32 := by omega
  refine ⟨hfit', inVram_samePage hcfg ?_⟩
  rw [BitVec.toNat_add, BitVec.toNat_ofNat, Nat.add_mod_mod, Nat.mod_eq_of_lt hfit']
  omega

end Sys2Proof.Machine

/-! PROOFS. Every step keeps the invariant of the block: one lemma per operation, in the order of the model's files, each from
the lemmas of the operations it calls. -/

namespace Sys2Proof.Machine

/-! ### Operations that end in a state of the invariant -/

/-- Completed or faulting, the operation leaves a state that meets the invariant. -/
def Res.EndsInInv {α : Type} : Res α → Prop
  | .ok _ s => s.Inv
  | .pageFault _ _ s => s.Inv
  | .fault _ => True
  | .refused _ => True

theorem Res.EndsInInv.intro {α : Type} {r : Res α} (hok : ∀ a t, r = .ok a t → t.Inv)
    (hfault : ∀ x k t, r = .pageFault x k t → t.Inv) : r.EndsInInv := by
  cases r with
  | ok a t => exact hok a t rfl
  | pageFault x k t => exact hfault x k t rfl
  | fault => trivial
  | refused => trivial

theorem Res.EndsInInv.bind {α β : Type} {r : Res α} {f : α → State → Res β} (hr : r.EndsInInv)
    (hf : ∀ a s, s.Inv → (f a s).EndsInInv) : (r.bind f).EndsInInv := by
  cases r with
  | ok a s => exact hf a s hr
  | pageFault => exact hr
  | fault => trivial
  | refused => trivial

/-- The step such an operation makes, if putting its result out keeps the invariant. -/
theorem Res.EndsInInv.toOutcome {α : Type} {r : Res α} {k : α → State → State} {t : State} (hr : r.EndsInInv)
    (h : r.toOutcome k = .next t) (hk : ∀ a s, s.Inv → (k a s).Inv) : t.Inv := by
  rcases Res.toOutcome_eq_next h with ⟨a, u, rfl, rfl⟩ | ⟨x, kind, u, rfl, rfl⟩
  · exact hk a u hr
  · exact hr

/-! ### The parts of the invariant, and what an update must meet to keep it -/

theorem State.Inv.tcache_wf {s : State} (hs : s.Inv) : Tcache.wf s.tcache = true := hs.2.2.2.1

theorem State.Inv.pmem_wf {s : State} (hs : s.Inv) : Memory.wf s.cfg.physSize s.pmem = true := hs.2.2.2.2.1

theorem State.Inv.win_length {s : State} (hs : s.Inv) : s.win.length = windowLen := hs.2.2.2.2.2.1

theorem State.Inv.cursor_le {s : State} (hs : s.Inv) : s.cursor ≤ windowLen := hs.2.2.2.2.2.2

/-- The gate's two settings are its two legal masks (R23, R254). -/
theorem a20MaskOf_legal (enabled : Bool) : a20MaskOf enabled = 0x000FFFFF#32 ∨ a20MaskOf enabled = 0xFFFFFFFF#32 := by
  cases enabled
  · exact .inl rfl
  · exact .inr rfl

theorem State.Inv.setTcache {s : State} {c : List (Nat × Word)} (hs : s.Inv) (hc : Tcache.wf c = true) :
    (s.setTcache c).Inv := by
  obtain ⟨hcfg, hbase, hmask, -, hmem, hwin, hcur⟩ := hs
  exact ⟨hcfg, hbase, hmask, hc, hmem, hwin, hcur⟩

theorem State.Inv.setPdBase {s : State} {b : Word} (hs : s.Inv) (hb : b &&& 0xFFF#32 = 0#32) : (s.setPdBase b).Inv := by
  obtain ⟨hcfg, -, hmask, hcache, hmem, hwin, hcur⟩ := hs
  exact ⟨hcfg, hb, hmask, hcache, hmem, hwin, hcur⟩

theorem State.Inv.setA20Mask {s : State} (hs : s.Inv) (enabled : Bool) : (s.setA20Mask (a20MaskOf enabled)).Inv := by
  obtain ⟨hcfg, hbase, -, hcache, hmem, hwin, hcur⟩ := hs
  exact ⟨hcfg, hbase, a20MaskOf_legal enabled, hcache, hmem, hwin, hcur⟩

theorem State.Inv.setMem {s : State} {m : List Host.Cell} (hs : s.Inv) (hm : Memory.wf s.cfg.physSize m = true) :
    (s.setMem m).Inv := by
  obtain ⟨hcfg, hbase, hmask, hcache, -, hwin, hcur⟩ := hs
  exact ⟨hcfg, hbase, hmask, hcache, hm, hwin, hcur⟩

theorem State.Inv.setCursor {s : State} {c : Nat} (hs : s.Inv) (hc : c ≤ windowLen) : (s.setCursor c).Inv := by
  obtain ⟨hcfg, hbase, hmask, hcache, hmem, hwin, -⟩ := hs
  exact ⟨hcfg, hbase, hmask, hcache, hmem, hwin, hc⟩

theorem State.Inv.setWindow {s : State} {w : List Byte} (hs : s.Inv) (hw : w.length = windowLen) : (s.setWindow w).Inv := by
  obtain ⟨hcfg, hbase, hmask, hcache, hmem, -, -⟩ := hs
  exact ⟨hcfg, hbase, hmask, hcache, hmem, hw, Nat.zero_le _⟩

theorem writeReg_inv {s : State} (hs : s.Inv) (w : RegWidth) (i : RegIdx) (v : Nat) : (writeReg w i v s).Inv := by
  obtain ⟨g, hg⟩ := writeReg_frame w i v s
  exact hg ▸ hs

/-! ### Consuming bytes -/

/-- Consumption stays within the window, so the cursor stays an index of it. -/
theorem OnlyConsumes.endsInInv {α : Type} {f : State → Res α} (hf : OnlyConsumes f) {s : State} (hs : s.Inv) :
    (f s).EndsInInv := by
  rcases hf s with ⟨a, t, h, n, rfl, hle⟩ | h
  · rw [h]
    exact hs.setCursor (hle.trans (max_le hs.cursor_le hs.win_length.le))
  · rw [h]; trivial

theorem skipBytes_inv {s : State} (hs : s.Inv) (n : Nat) : (skipBytes n s).EndsInInv := by
  by_cases hc : s.cursor + n ≤ windowLen
  · rw [skipBytes_eq hc]; exact hs.setCursor hc
  · rw [skipBytes_refused hc]; trivial

/-! ### The backing store and the video window -/

theorem loadBytes_inv {s : State} (hs : s.Inv) (p : Word) (n : Nat) : (loadBytes p n s).EndsInInv := by
  refine .intro (fun bs t h => ?_) fun x k t h => absurd h loadBytes_not_pageFault
  obtain ⟨-, ⟨tc, wc, vc, fi, rfl⟩, htc⟩ := loadBytes_ok h
  obtain rfl : tc = s.tcache := htc
  exact hs

theorem physWrite_inv {s : State} (hs : s.Inv) (p : Word) (bs : List Byte) : (physWrite p bs s).EndsInInv := by
  unfold physWrite
  split_ifs with hp
  · exact hs.setMem (Memory.writeBytes_wf bs hs.pmem_wf hp)
  · trivial

theorem storeBytes_inv {s : State} (hs : s.Inv) (p : Word) (bs : List Byte) : (storeBytes p bs s).EndsInInv := by
  unfold storeBytes
  split_ifs
  · exact hs
  · exact physWrite_inv hs p bs

/-! ### Translate -/

/-- A walk caches an aligned base under a page number of 20 bits. -/
theorem translate_inv {s : State} (hs : s.Inv) (l : Word) (kind : AccessKind) : (translate l kind s).EndsInInv := by
  refine .intro (fun p t h => ?_) fun x k t h => ?_
  · rcases translate_ok h with ⟨-, -, rfl⟩ | ⟨-, _, -, -, rfl⟩ | ⟨-, -, hwalk⟩
    · exact hs
    · exact hs
    · obtain ⟨_, pte, -, -, -, -, -, rfl⟩ := walk_ok hwalk
      have hkey : pageNumber l < 2 ^ 20 := Nat.div_lt_of_lt_mul l.isLt
      have hcounted : s.countWalk.Inv := hs
      exact hcounted.setTcache (Tcache.insert_wfFrom hs.tcache_wf (Nat.zero_le _) hkey (entryBase_aligned pte))
  · obtain ⟨-, -, rfl, -⟩ := translate_pageFault h
    exact hs

/-! ### Memory access -/

theorem readByteByByte_inv {s : State} (hs : s.Inv) (kind : AccessKind) (n : Nat) (l : Word) :
    (readByteByByte kind n l s).EndsInInv := by
  induction n generalizing l s with
  | zero => exact hs
  | succ n ih =>
    exact (translate_inv hs l kind).bind fun p _ hs => (loadBytes_inv hs p 1).bind fun _ _ hs =>
      (ih hs (l + 1)).bind fun _ _ hs => hs

theorem writeByteByByte_inv {s : State} (hs : s.Inv) (bs : List Byte) (l : Word) : (writeByteByByte bs l s).EndsInInv := by
  induction bs generalizing l s with
  | nil => exact hs
  | cons b bs ih =>
    exact (translate_inv hs l .write).bind fun p _ hs => (storeBytes_inv hs p [b]).bind fun _ _ hs => ih hs (l + 1)

theorem memRead_inv {s : State} (hs : s.Inv) (l : Word) (n : Nat) (kind : AccessKind) : (memRead l n kind s).EndsInInv := by
  unfold memRead
  split_ifs
  · exact readByteByByte_inv hs kind n l
  · exact (translate_inv hs l kind).bind fun p _ hs => loadBytes_inv hs p n

theorem memWrite_inv {s : State} (hs : s.Inv) (l : Word) (bs : List Byte) : (memWrite l bs s).EndsInInv := by
  unfold memWrite
  split_ifs
  · exact writeByteByByte_inv hs bs l
  · exact (translate_inv hs l .write).bind fun p _ hs => storeBytes_inv hs p bs

/-- The window fetched has sixteen bytes, as many as were read (R258). -/
theorem fetchWindow_inv {s : State} (hs : s.Inv) (l : Word) : (fetchWindow l s).EndsInInv := by
  have hread := memRead_inv hs l windowLen .instructionFetch
  refine .intro (fun bs t h => ?_) fun x k t h => ?_
  · obtain ⟨hlen, u, hu, -, rfl⟩ := fetchWindow_ok h
    rw [hu] at hread
    exact State.Inv.setWindow hread hlen
  · rcases Res.bind_eq_pageFault h with h | ⟨_, _, _, h⟩
    · rw [h] at hread
      exact hread
    · cases h

/-! ### Maintenance operations and Reset -/

theorem writePdBase_inv {s : State} (hs : s.Inv) (v : Word) : (writePdBase v s).EndsInInv := by
  unfold writePdBase
  split_ifs with hv
  · exact (hs.setPdBase hv).setTcache rfl
  · trivial

theorem runMaintenances_inv {s : State} (hs : s.Inv) (ops : List MaintenanceOp) : (runMaintenances ops s).EndsInInv := by
  induction ops generalizing s with
  | nil => exact hs
  | cons op ops ih =>
    have hop : (runMaintenance op s).EndsInInv := by
      cases op with
      | writePdBase v => exact writePdBase_inv hs v
      | flushCache => exact hs.setTcache rfl
      | setA20 enabled => exact hs.setA20Mask enabled
    exact hop.bind fun _ _ hs => ih hs

/-- The owned state at reset: base 0, an empty cache, a legal mask, sixteen window bytes (R45, R300). -/
theorem resetBlock_inv {s : State} (hs : s.Inv) : (resetBlock s).Inv := by
  obtain ⟨hcfg, -, -, -, hmem, -, -⟩ := hs
  exact ⟨hcfg, BitVec.zero_and, a20MaskOf_legal _, rfl, hmem, freeBytes_length _ _, Nat.zero_le _⟩

/-! ### Instructions -/

/-- What `exec` does, by the operation an instruction runs: a form completed from its length and location, a SIB escape,
pending override or size bits set (R101), or one of the nine port operations. -/
theorem exec_cases (i : Instr) (s : State) :
    (∃ len loc reg, exec i s = completeForm len loc reg s) ∨
    (∃ mod reg, exec i s = answerLocation ((skipBytes 1 s).bind fun _ t => resolveEscape mod reg t)) ∨
    (∃ f, exec i s = completePrefix f s ∧
      ∀ t, ∃ seg a o, f t = { t with segOverride := seg, addressSize32 := a, operandSize32 := o }) ∨
    i = .resolve ∨ i = .translate ∨ i = .memRead ∨ i = .memWrite ∨ i = .fetchWindow ∨ i = .writePdBase ∨
    i = .flushCache ∨ i = .setA20 ∨ i = .reset := by
  cases i
  case a32SibM0 | a32SibM1 | a32SibM2 => exact .inr (.inl ⟨_, _, rfl⟩)
  case prefixEs | prefixCs | prefixSs | prefixDs | prefixFs | prefixGs | prefixOpsize | prefixAddrsize =>
    exact .inr (.inr (.inl ⟨_, rfl, fun _ => ⟨_, _, _, rfl⟩⟩))
  case resolve | translate | memRead | memWrite | fetchWindow | writePdBase | flushCache | setA20 | reset =>
    simp only [true_or, or_true]
  all_goals exact .inl ⟨_, _, _, rfl⟩

theorem exec_inv {i : Instr} {s t : State} (hs : s.Inv) (h : exec i s = .next t) : t.Inv := by
  rcases exec_cases i s with ⟨len, loc, reg, he⟩ | ⟨mod, reg, he⟩ | ⟨f, he, hf⟩ |
    rfl | rfl | rfl | rfl | rfl | rfl | rfl | rfl | rfl
  · exact (skipBytes_inv hs len).toOutcome (he.symm.trans h) fun _ _ hu => hu
  · have hescape : ((skipBytes 1 s).bind fun _ t => resolveEscape mod reg t).EndsInInv :=
      (skipBytes_inv hs 1).bind fun _ _ hu => (resolveEscape_onlyConsumes mod reg).endsInInv hu
    exact hescape.toOutcome (he.symm.trans h) fun _ _ hu => hu
  · refine (skipBytes_inv hs 1).toOutcome (he.symm.trans h) fun _ u hu => ?_
    obtain ⟨seg, a, o, hfu⟩ := hf u
    rw [hfu]
    exact hu
  · exact (resolve_onlyConsumes.endsInInv hs).toOutcome h fun _ _ hu => hu
  · exact (translate_inv hs _ _).toOutcome h fun _ _ hu => hu
  · exact (memRead_inv hs _ _ _).toOutcome h fun _ _ hu => hu
  · exact (memWrite_inv hs _ _).toOutcome h fun _ _ hu => hu
  · exact (fetchWindow_inv hs _).toOutcome h fun _ _ hu => hu
  · exact (writePdBase_inv hs _).toOutcome h fun _ _ hu => hu
  · cases h; exact hs.setTcache rfl
  · cases h; exact hs.setA20Mask _
  · have hreset := resetBlock_inv hs
    cases h
    exact hreset

/-! ### The operand protocol of a CPU instruction -/

theorem checkOperand_inv {s : State} (hs : s.Inv) (rm : Option RmOperand) (loc : Option (Location × RegIdx)) :
    (checkOperand rm loc s).EndsInInv := by
  rcases checkOperand_cases rm loc s with h | h | h | h
  · rw [h]; exact hs
  · rw [h]; trivial
  · rw [h]; trivial
  · rw [h]; trivial

theorem readLocation_inv {s : State} (hs : s.Inv) (w : Width) (loc : Location) : (readLocation w loc s).EndsInInv := by
  cases loc with
  | register i =>
    unfold readLocation
    cases w.toReg? with
    | some => exact hs
    | none => trivial
  | memory seg offset linear => exact (memRead_inv hs _ _ _).bind fun _ _ hu => hu

theorem writeLocation_inv {s : State} (hs : s.Inv) (w : Width) (loc : Location) (v : Nat) :
    (writeLocation w loc v s).EndsInInv := by
  cases loc with
  | register i =>
    unfold writeLocation
    cases w.toReg? with
    | some rw => exact writeReg_inv hs rw i v
    | none => trivial
  | memory seg offset linear => exact memWrite_inv hs _ _

theorem loadOperand_inv {s : State} (hs : s.Inv) (w : Width) (dir : Direction) (loc : Location) :
    (loadOperand w dir loc s).EndsInInv := by
  unfold loadOperand
  split_ifs
  · exact (readLocation_inv hs w loc).bind fun _ _ hu => hu
  · exact hs

theorem storeOperand_inv {s : State} (hs : s.Inv) (w : Width) (dir : Direction) (loc : Location) (v : Nat) :
    (storeOperand w dir loc v s).EndsInInv := by
  unfold storeOperand
  split_ifs
  · exact writeLocation_inv hs w loc v
  · exact hs

theorem loadRm_inv {s : State} (hs : s.Inv) (rm : Option RmOperand) (loc : Option (Location × RegIdx)) :
    (loadRm rm loc s).EndsInInv := by
  unfold loadRm
  split
  · exact loadOperand_inv hs _ _ _
  · exact hs
  · exact hs

theorem storeRm_inv {s : State} (hs : s.Inv) (rm : Option RmOperand) (loc : Option (Location × RegIdx)) (v : Nat) :
    (storeRm rm loc v s).EndsInInv := by
  unfold storeRm
  split
  · exact storeOperand_inv hs _ _ _ v
  · exact hs

theorem loadImplicits_inv {s : State} (hs : s.Inv) (os : List ImplicitOperand) : (loadImplicits os s).EndsInInv := by
  induction os generalizing s with
  | nil => exact hs
  | cons o os ih => exact (loadOperand_inv hs _ _ _).bind fun _ _ hu => (ih hu).bind fun _ _ hv => hv

theorem storeImplicits_inv {s : State} (hs : s.Inv) (os : List ImplicitOperand) (vs : List Nat) :
    (storeImplicits os vs s).EndsInInv := by
  induction os generalizing vs s with
  | nil => exact hs
  | cons o os ih =>
    cases vs with
    | nil => exact hs
    | cons v vs => exact (storeOperand_inv hs _ _ _ v).bind fun _ _ hu => ih hu vs

theorem applyHandler_inv {s : State} (hs : s.Inv) (h : HandlerAnswer) : (applyHandler h s).EndsInInv :=
  (runMaintenances_inv hs h.operations).bind fun _ u hu => by
    obtain ⟨g, hg⟩ := applyWrites_frame h u
    rw [hg]
    exact hu

/-- The register write-backs change general registers alone. -/
theorem storeRegisters_inv {s : State} (hs : s.Inv) (d : Descriptor) (h : HandlerAnswer)
    (loc : Option (Location × RegIdx)) : (storeRegField d.specifier loc h.reg (storeFixed d.fixed h.fixed s)).Inv := by
  obtain ⟨g, hg⟩ := storeFixed_frame d.fixed h.fixed s
  obtain ⟨g', hg'⟩ := storeRegField_frame d.specifier loc h.reg (storeFixed d.fixed h.fixed s)
  rw [hg', hg]
  exact hs

theorem runInstruction_inv {s : State} (hs : s.Inv) (d : Descriptor) (h : HandlerAnswer) :
    (runInstruction d h s).EndsInInv :=
  (skipBytes_inv hs d.opcodeLen).bind fun _ _ hs =>
  ((locate_onlyConsumes d.specifier).endsInInv hs).bind fun loc _ hs =>
  (checkOperand_inv hs _ loc).bind fun _ _ hs =>
  ((fetchImmediates_onlyConsumes d.immediates).endsInInv hs).bind fun _ _ hs =>
  (loadImplicits_inv hs d.implicit).bind fun _ _ hs =>
  (loadRm_inv hs _ loc).bind fun _ _ hs =>
  (applyHandler_inv hs h).bind fun _ _ hs =>
  (storeImplicits_inv (storeRegisters_inv hs d h loc) d.implicit h.implicit).bind fun _ _ hs =>
  (storeRm_inv hs _ loc h.rm).bind fun _ _ hs => hs

/-! ### Serving a request -/

theorem dispatchOpcode_inv {a : DispatchAnswer} {s t : State} (hs : s.Inv) (h : dispatchOpcode a s = .next t) : t.Inv := by
  unfold dispatchOpcode at h
  split at h
  · cases h
  · next procedures handler =>
    split at h
    · next d _ => exact (runInstruction_inv hs d handler).toOutcome h fun _ _ hu => hu
    · cases h

theorem runSource_inv {src : Source} {s t : State} (hs : s.Inv) (h : runSource src s = .next t) : t.Inv := by
  have hargs : (presentArguments src s).Inv := by cases src <;> exact hs
  unfold runSource at h
  split at h
  · split_ifs at h
    exact exec_inv hargs h
  · cases h

theorem runCycle_inv {a : DispatchAnswer} {s t : State} (hs : s.Inv) (h : runCycle a s = .next t) : t.Inv := by
  have hfetch := fetchWindow_inv hs (fetchAddress s)
  unfold runCycle at h
  split at h
  · next bs u hu =>
    rw [hu] at hfetch
    split at h
    · exact exec_inv (s := u.setRequests (.cycle a :: u.requests)) hfetch h
    · exact dispatchOpcode_inv hfetch h
  · next x kind u hu =>
    rw [hu] at hfetch
    cases h
    exact hfetch
  · cases h
  · cases h

theorem applyCollaborator_inv {w : CollaboratorWrite} {s t : State} (hs : s.Inv) (h : applyCollaborator w s = .next t) :
    t.Inv := by
  cases w with
  | load p bytes => exact (physWrite_inv hs p bytes).toOutcome h fun _ _ hu => hu
  | gpr | segBase | ip | flags | decodeContext => cases h; exact hs

/-- Settles O57: the request served is an instruction, a dispatch cycle or a collaborator's write, and each keeps the
invariant; an idle step changes nothing. -/
theorem everyStepKeepsInvariant : Obligations.EveryStepKeepsInvariant := by
  intro s t hs h
  unfold step at h
  split at h
  · cases h; exact hs
  · next r rest _ =>
    have hrest : (s.setRequests rest).Inv := hs
    cases r with
    | decode src => exact runSource_inv hrest h
    | cycle a => exact runCycle_inv hrest h
    | collaborator w => exact applyCollaborator_inv hrest h

end Sys2Proof.Machine

/-! PROOFS. The register views, reset and launch, and the eight prefixes (10_state.md). -/

namespace Sys2Proof.Machine

open Sys2Proof.Claims

/-! ### The register file in numbers (R30 to R33) -/

theorem gpr32_setGpr32 (s : State) (i j : RegIdx) (v : Word) :
    (s.setGpr32 i v).gpr32 j = if j = i then v else s.gpr32 j := by
  have hset : (s.setGpr32 i v).gpr32 j = if i.toNat = j.toNat then v else s.gpr32 j := Vector.getElem_set i.isLt j.isLt
  simpa only [BitVec.toNat_inj, eq_comm] using hset

theorem r32_setGpr32_same (s : State) (i : RegIdx) (v : Word) : r32 (s.setGpr32 i v) i = v.toNat :=
  congrArg BitVec.toNat ((gpr32_setGpr32 s i i v).trans (if_pos rfl))

theorem r32_setGpr32_other (s : State) {i j : RegIdx} (v : Word) (h : j ≠ i) : r32 (s.setGpr32 i v) j = r32 s j :=
  congrArg BitVec.toNat ((gpr32_setGpr32 s i j v).trans (if_neg h))

theorem toNat_append_eq {m n : Nat} (hi : BitVec m) (lo : BitVec n) : (hi ++ lo).toNat = hi.toNat * 2 ^ n + lo.toNat := by
  rw [BitVec.toNat_append, ← Nat.shiftLeft_add_eq_or_of_lt lo.isLt, Nat.shiftLeft_eq]

theorem toNat_extractLsb' {n : Nat} (x : BitVec n) (start len : Nat) :
    (x.extractLsb' start len).toNat = x.toNat / 2 ^ start % 2 ^ len := by
  rw [BitVec.extractLsb'_toNat, Nat.shiftRight_eq_div_pow]

theorem gpr32_toNat (s : State) (i : RegIdx) : (s.gpr32 i).toNat = r32 s i := rfl

theorem r32_lt (s : State) (i : RegIdx) : r32 s i < 2 ^ 32 := BitVec.isLt _

theorem readReg_two (s : State) (i : RegIdx) : readReg .two i s = r32 s i % 2 ^ 16 := by
  rw [readReg, State.gpr16, toNat_extractLsb', gpr32_toNat, pow_zero, Nat.div_one]

/-- A 16-bit write replaces the low half (R31). -/
theorem r32_writeReg_two (s : State) (i : RegIdx) (v : Nat) :
    r32 (writeReg .two i v s) i = r32 s i / 2 ^ 16 * 2 ^ 16 + v % 2 ^ 16 := by
  have := r32_lt s i
  rw [writeReg, State.setGpr16, r32_setGpr32_same, toNat_append_eq, toNat_extractLsb', gpr32_toNat, BitVec.toNat_ofNat]
  omega

/-- The 8-bit locations 0 to 3 are low bytes (R32). -/
theorem readReg_one_low (s : State) {i : RegIdx} (h : i.toNat < 4) : readReg .one i s = r32 s i % 2 ^ 8 := by
  rw [readReg, State.gpr8, if_pos h, toNat_extractLsb', gpr32_toNat, pow_zero, Nat.div_one]

theorem writeReg_one_low (s : State) {i : RegIdx} (v : Nat) (h : i.toNat < 4) :
    writeReg .one i v s = s.setGpr32 i ((s.gpr32 i).extractLsb' 8 24 ++ BitVec.ofNat 8 v) := if_pos h

theorem r32_writeReg_one_low (s : State) {i : RegIdx} (v : Nat) (h : i.toNat < 4) :
    r32 (writeReg .one i v s) i = r32 s i / 2 ^ 8 * 2 ^ 8 + v % 2 ^ 8 := by
  have := r32_lt s i
  rw [writeReg_one_low s v h, r32_setGpr32_same, toNat_append_eq, toNat_extractLsb', gpr32_toNat, BitVec.toNat_ofNat]
  omega

/-- The 8-bit locations 4 to 7 are the second bytes of registers 0 to 3 (R32). -/
theorem readReg_one_high (s : State) {i : RegIdx} (h : 4 ≤ i.toNat) :
    readReg .one i s = r32 s (i - 4) / 2 ^ 8 % 2 ^ 8 := by
  rw [readReg, State.gpr8, if_neg (Nat.not_lt.mpr h), toNat_extractLsb', gpr32_toNat]

theorem writeReg_one_high (s : State) {i : RegIdx} (v : Nat) (h : 4 ≤ i.toNat) :
    writeReg .one i v s = s.setGpr32 (i - 4)
      ((s.gpr32 (i - 4)).extractLsb' 16 16 ++ BitVec.ofNat 8 v ++ (s.gpr32 (i - 4)).extractLsb' 0 8) :=
  if_neg (Nat.not_lt.mpr h)

theorem r32_writeReg_one_high (s : State) {i : RegIdx} (v : Nat) (h : 4 ≤ i.toNat) :
    r32 (writeReg .one i v s) (i - 4) =
      r32 s (i - 4) / 2 ^ 16 * 2 ^ 16 + v % 2 ^ 8 * 2 ^ 8 + r32 s (i - 4) % 2 ^ 8 := by
  have := r32_lt s (i - 4)
  rw [writeReg_one_high s v h, r32_setGpr32_same, toNat_append_eq, toNat_append_eq, toNat_extractLsb', toNat_extractLsb',
    gpr32_toNat, BitVec.toNat_ofNat]
  omega

/-- Settles O21: each write is a write of one 32-bit register, whose new value is read off bit field by bit field. -/
theorem registerViews : Obligations.RegisterViews := by
  intro s i j v
  have hfour : r32 (writeReg .four i v s) i = v % 2 ^ 32 := (r32_setGpr32_same s i _).trans (BitVec.toNat_ofNat v 32)
  refine ⟨rfl, hfour, r32_setGpr32_other s _, readReg_two s i, r32_writeReg_two s i v, r32_setGpr32_other s _,
    fun h => ⟨readReg_one_low s h, r32_writeReg_one_low s v h, fun hj => ?_⟩,
    fun h => ⟨readReg_one_high s h, r32_writeReg_one_high s v h, fun hj => ?_⟩, fun w => ?_⟩
  · rw [writeReg_one_low s v h, r32_setGpr32_other s _ hj]
  · rw [writeReg_one_high s v h, r32_setGpr32_other s _ hj]
  · obtain ⟨g, hg⟩ := writeReg_frame w i v s
    rw [hg]

/-! ### Reset and launch (R45, R300) -/

/-- A launch with legal parameters, a canonical image and a window of sixteen bytes meets the invariant. -/
theorem launch_inv {cfg : Config} {image : List Host.Cell} {win : List Byte} (hcfg : cfg.wf)
    (himage : Memory.wf cfg.physSize image = true) (hwin : win.length = windowLen) (gpr : Vector Word 8)
    (segBase : Vector Word 6) (ip flags : Word) (a32 o32 : Bool) (requests : List Request) :
    (State.launch cfg image gpr segBase ip flags a32 o32 win requests).Inv :=
  ⟨hcfg, BitVec.zero_and, a20MaskOf_legal _, rfl, himage, hwin, Nat.zero_le _⟩

/-- Settles O56: the reset state is a launch with the default parameters, which are legal, and no image. -/
theorem invariantAtReset : Obligations.InvariantAtReset :=
  have hcfg : Config.default.wf := by decide
  launch_inv hcfg rfl rfl _ _ _ _ _ _ _

/-- Settles O39: both are the reset values written out; the window of `Reset` is sixteen free bytes. -/
theorem resetOwnedState : Obligations.ResetOwnedState :=
  ⟨fun s => ⟨freeBytes s.freeIndex windowLen, freeBytes_length _ _, rfl⟩,
    fun _ _ _ _ _ _ _ _ _ _ => ⟨rfl, rfl, rfl, rfl, rfl, rfl, rfl, rfl⟩⟩

/-! ### Prefixes (R41, R101, R264, R265) -/

theorem completePrefix_eq (f : State → State) {s : State} (h : s.cursor + 1 ≤ windowLen) :
    completePrefix f s = .next (((f (s.setCursor (s.cursor + 1))).advanceIp).setOut .nothing) := by
  rw [completePrefix, skipBytes_eq h, Res.toOutcome_ok]

/-- Completed, the byte is consumed, the pending state set and IP advanced. -/
theorem completePrefix_next {f : State → State} {s t : State} (h : completePrefix f s = .next t) :
    s.cursor + 1 ≤ windowLen ∧ t = ((f (s.setCursor (s.cursor + 1))).advanceIp).setOut .nothing := by
  by_cases hc : s.cursor + 1 ≤ windowLen
  · rw [completePrefix_eq f hc] at h
    cases h
    exact ⟨hc, rfl⟩
  · rw [completePrefix, skipBytes_refused hc] at h
    cases h

/-- Settles O22: with its byte there each of the eight completes, and the pending state is the one it sets. -/
theorem prefixesSetPendingState : Obligations.PrefixesSetPendingState := fun _ h =>
  ⟨completePrefix_eq _ h, completePrefix_eq _ h, completePrefix_eq _ h, completePrefix_eq _ h, completePrefix_eq _ h,
    completePrefix_eq _ h, completePrefix_eq _ h, completePrefix_eq _ h⟩

/-- The instructions of R101 set override or size bits and complete by `completePrefix`. -/
theorem exec_of_prefixByte {i : Instr} (h : i.prefixByte ≠ none) :
    ∃ f, (∀ s, exec i s = completePrefix f s) ∧
      ∀ t : State, ∃ seg a o, f t = { t with segOverride := seg, addressSize32 := a, operandSize32 := o } := by
  cases i
  case prefixEs | prefixCs | prefixSs | prefixDs | prefixFs | prefixGs | prefixOpsize | prefixAddrsize =>
    exact ⟨_, fun _ => rfl, fun _ => ⟨_, _, _, rfl⟩⟩
  all_goals exact absurd rfl h

end Sys2Proof.Machine

/-! PROOFS. Which instruction a step runs: the specifiers and prefixes the decoder answers are well formed with any
arguments, and each source of a step runs what it decodes to (R100, R101, R106). -/

namespace Sys2Proof.Machine

/-! ### The decoder's answers, by row format -/

theorem withDisp8_ok {f : BitVec 8 → Instr} {bs rest : List Byte} {i : Instr} (h : withDisp8 f bs = .ok i rest) :
    ∃ d, i = f d := by
  unfold withDisp8 at h
  split at h
  · cases h; exact ⟨_, rfl⟩
  · cases h

theorem withDisp16_ok {f : BitVec 16 → Instr} {bs rest : List Byte} {i : Instr} (h : withDisp16 f bs = .ok i rest) :
    ∃ d, i = f d := by
  unfold withDisp16 at h
  split at h
  · cases h; exact ⟨_, rfl⟩
  · cases h

theorem withDisp32_ok {f : BitVec 32 → Instr} {bs rest : List Byte} {i : Instr} (h : withDisp32 f bs = .ok i rest) :
    ∃ d, i = f d := by
  unfold withDisp32 at h
  split at h
  · cases h; exact ⟨_, rfl⟩
  · cases h

/-- The instruction is a row of format M16, M32 or M32S (R108). -/
def IsSpecifier (i : Instr) : Prop := i.modrmFields ≠ none ∨ i.sibFields ≠ none

/-- Every form of a row of the opcode table, at every `reg` and displacement (or `reg` and `scale`). -/
def SpecifierRow {n : Nat} (f : RegIdx → BitVec n → Instr) : Prop := ∀ reg d, IsSpecifier (f reg d)

/-- Every form of a SIB row of the opcode table, at every `reg`, `scale` and displacement. -/
def SibRow {n : Nat} (f : RegIdx → BitVec 2 → BitVec n → Instr) : Prop := ∀ reg scale d, IsSpecifier (f reg scale d)

theorem pick8_induct {α : Type} {P : α → Prop} {i : RegIdx} {a0 a1 a2 a3 a4 a5 a6 a7 : α} (h0 : P a0) (h1 : P a1)
    (h2 : P a2) (h3 : P a3) (h4 : P a4) (h5 : P a5) (h6 : P a6) (h7 : P a7) : P (pick8 i a0 a1 a2 a3 a4 a5 a6 a7) := by
  unfold pick8
  split <;> assumption

theorem form16M0_isSpecifier (rm : RegIdx) : ∀ f, form16M0 rm = some f → ∀ reg, IsSpecifier (f reg) := by
  apply pick8_induct (P := fun o : Option (RegIdx → Instr) => ∀ f, o = some f → ∀ reg, IsSpecifier (f reg)) <;>
    rintro f ⟨⟩ reg <;> exact .inl (Option.some_ne_none _)

theorem form16M1_specifierRow (rm : RegIdx) : SpecifierRow (form16M1 rm) := by
  apply pick8_induct (P := SpecifierRow) <;> exact fun _ _ => .inl (Option.some_ne_none _)

theorem form16M2_specifierRow (rm : RegIdx) : SpecifierRow (form16M2 rm) := by
  apply pick8_induct (P := SpecifierRow) <;> exact fun _ _ => .inl (Option.some_ne_none _)

theorem form32M0_isSpecifier (rm : RegIdx) : ∀ f, form32M0 rm = some f → ∀ reg, IsSpecifier (f reg) := by
  apply pick8_induct (P := fun o : Option (RegIdx → Instr) => ∀ f, o = some f → ∀ reg, IsSpecifier (f reg)) <;>
    rintro f ⟨⟩ reg <;> exact .inl (Option.some_ne_none _)

theorem form32M1_specifierRow (rm : RegIdx) : ∀ f, form32M1 rm = some f → SpecifierRow f := by
  apply pick8_induct (P := fun o => ∀ f, o = some f → SpecifierRow f) <;> rintro f ⟨⟩ <;>
    exact fun _ _ => .inl (Option.some_ne_none _)

theorem form32M2_specifierRow (rm : RegIdx) : ∀ f, form32M2 rm = some f → SpecifierRow f := by
  apply pick8_induct (P := fun o => ∀ f, o = some f → SpecifierRow f) <;> rintro f ⟨⟩ <;>
    exact fun _ _ => .inl (Option.some_ne_none _)

theorem sibM0_specifierRow (base index : RegIdx) : ∀ f, sibM0 base index = some f → SpecifierRow f := by
  apply pick8_induct (P := fun o => ∀ f, o = some f → SpecifierRow f) <;> rintro f ⟨⟩ <;>
    apply pick8_induct (P := SpecifierRow) <;> exact fun _ _ => .inr (Option.some_ne_none _)

theorem sibM0B5_sibRow (index : RegIdx) : SibRow (sibM0B5 index) := by
  apply pick8_induct (P := SibRow) <;> exact fun _ _ _ => .inr (Option.some_ne_none _)

theorem sibM1_sibRow (base index : RegIdx) : SibRow (sibM1 base index) := by
  apply pick8_induct (P := SibRow) <;> apply pick8_induct (P := SibRow) <;>
    exact fun _ _ _ => .inr (Option.some_ne_none _)

theorem sibM2_sibRow (base index : RegIdx) : SibRow (sibM2 base index) := by
  apply pick8_induct (P := SibRow) <;> apply pick8_induct (P := SibRow) <;>
    exact fun _ _ _ => .inr (Option.some_ne_none _)

theorem decodeM16_isSpecifier {bs rest : List Byte} {i : Instr} (h : decodeM16 bs = .ok i rest) : IsSpecifier i := by
  cases bs with
  | nil => cases h
  | cons m bs =>
    simp only [decodeM16] at h
    split at h
    · split at h
      · next f hf => cases h; exact form16M0_isSpecifier _ f hf _
      · obtain ⟨d, rfl⟩ := withDisp16_ok h; exact .inl (Option.some_ne_none _)
    · obtain ⟨d, rfl⟩ := withDisp8_ok h; exact form16M1_specifierRow _ _ d
    · obtain ⟨d, rfl⟩ := withDisp16_ok h; exact form16M2_specifierRow _ _ d
    · cases h; exact .inl (Option.some_ne_none _)

theorem decodeM32_isSpecifier {bs rest : List Byte} {i : Instr} (h : decodeM32 bs = .ok i rest) : IsSpecifier i := by
  cases bs with
  | nil => cases h
  | cons m bs =>
    simp only [decodeM32] at h
    split at h
    · split at h
      · next f hf => cases h; exact form32M0_isSpecifier _ f hf _
      · obtain ⟨d, rfl⟩ := withDisp32_ok h; exact .inl (Option.some_ne_none _)
    · split at h
      · next f hf => obtain ⟨d, rfl⟩ := withDisp8_ok h; exact form32M1_specifierRow _ f hf _ d
      · cases h; exact .inl (Option.some_ne_none _)
    · split at h
      · next f hf => obtain ⟨d, rfl⟩ := withDisp32_ok h; exact form32M2_specifierRow _ f hf _ d
      · cases h; exact .inl (Option.some_ne_none _)
    · cases h; exact .inl (Option.some_ne_none _)

theorem decodeSib_isSpecifier {m sib : Byte} {bs rest : List Byte} {i : Instr} (h : decodeSib m sib bs = .ok i rest) :
    IsSpecifier i := by
  unfold decodeSib at h
  split at h
  · split at h
    · next f hf => cases h; exact sibM0_specifierRow _ _ f hf _ _
    · obtain ⟨d, rfl⟩ := withDisp32_ok h; exact sibM0B5_sibRow _ _ _ d
  · obtain ⟨d, rfl⟩ := withDisp8_ok h; exact sibM1_sibRow _ _ _ _ d
  · obtain ⟨d, rfl⟩ := withDisp32_ok h; exact sibM2_sibRow _ _ _ _ d

theorem decodeM32s_isSpecifier {bs rest : List Byte} {i : Instr} (h : decodeM32s bs = .ok i rest) : IsSpecifier i := by
  unfold decodeM32s at h
  split at h
  · split_ifs at h
    exact decodeSib_isSpecifier h
  · cases h
  · cases h

theorem selectFormat_cases (a32 : Bool) (bs : List Byte) :
    selectFormat a32 bs = .m16 ∨ selectFormat a32 bs = .m32 ∨ selectFormat a32 bs = .m32s := by
  unfold selectFormat
  split <;> split_ifs <;> simp

theorem decodeSpecifier_isSpecifier {a32 : Bool} {bs rest : List Byte} {i : Instr}
    (h : decodeSpecifier a32 bs = .ok i rest) : IsSpecifier i := by
  rcases selectFormat_cases a32 bs with hf | hf | hf <;> rw [decodeSpecifier, hf] at h
  · exact decodeM16_isSpecifier h
  · exact decodeM32_isSpecifier h
  · exact decodeM32s_isSpecifier h

theorem decodePrefix_prefixByte {bs rest : List Byte} {i : Instr} (h : decodePrefix bs = .ok i rest) :
    i.prefixByte ≠ none := by
  unfold decodePrefix at h
  split at h
  · cases h
  · split at h <;> cases h <;> exact Option.some_ne_none _

/-- Only three port operations look at their arguments (R250, R256, R257). -/
theorem wellFormed_of_ne {i : Instr} (args : PortArguments) (hread : i ≠ .memRead) (hwrite : i ≠ .memWrite)
    (hbase : i ≠ .writePdBase) : i.wellFormed args = true := by
  unfold Instr.wellFormed
  split
  · exact absurd rfl hread
  · exact absurd rfl hwrite
  · exact absurd rfl hbase
  · rfl

theorem IsSpecifier.wellFormed {i : Instr} (h : IsSpecifier i) (args : PortArguments) : i.wellFormed args = true := by
  refine wellFormed_of_ne args ?_ ?_ ?_ <;> rintro rfl <;> exact h.elim (· rfl) (· rfl)

theorem wellFormed_of_prefixByte {i : Instr} (h : i.prefixByte ≠ none) (args : PortArguments) :
    i.wellFormed args = true :=
  wellFormed_of_ne args (fun hi => h (hi ▸ rfl)) (fun hi => h (hi ▸ rfl)) fun hi => h (hi ▸ rfl)

/-! ### What a step runs -/

theorem step_of_request {s : State} {r : Request} {rest : List Request} (h : s.requests = r :: rest) :
    step s = serve r (s.setRequests rest) := by
  rw [step, h]

theorem runSource_ok {src : Source} {s : State} {i : Instr} {left : List Byte} (h : decodeSource src s = .ok i left)
    (hargs : i.wellFormed (presentArguments src s).args = true) : runSource src s = exec i (presentArguments src s) := by
  rw [runSource, h]
  exact if_pos hargs

/-- A cycle whose window starts with one of the prefixes runs it and stays queued (R41, R265). -/
theorem runCycle_of_prefix {a : DispatchAnswer} {s t : State} {bs left : List Byte} {i : Instr}
    (hfetch : fetchWindow (fetchAddress s) s = .ok bs t) (hdecode : decodePrefix t.win = .ok i left) :
    runCycle a s = exec i (t.setRequests (.cycle a :: t.requests)) := by
  simp only [runCycle, hfetch, hdecode]

/-- Settles O52: specifiers and prefixes take no arguments, so each source is run as decoded; the fetch of a cycle keeps the
queue, so the instruction decoded there runs with the cycle put back in front. -/
theorem stepRunsDecodedInstruction : Obligations.StepRunsDecodedInstruction := by
  refine ⟨fun s code args rest i left hreq hdec hargs => ?_, fun s rest i left hreq hdec => ?_,
    fun s rest i left hreq hdec => ?_, fun s t answer rest win i left hreq hfetch hdec => ?_, fun s hreq => ?_⟩
  · exact (step_of_request hreq).trans (runSource_ok (src := .command code args) hdec hargs)
  · exact (step_of_request hreq).trans
      (runSource_ok (src := .specifier) hdec ((decodeSpecifier_isSpecifier hdec).wellFormed _))
  · exact (step_of_request hreq).trans
      (runSource_ok (src := .prefixByte) hdec (wellFormed_of_prefixByte (decodePrefix_prefixByte hdec) _))
  · obtain ⟨-, u, -, ⟨_, _, _, _, rfl⟩, rfl⟩ := fetchWindow_ok hfetch
    rw [step_of_request hreq, hreq]
    exact runCycle_of_prefix (s := s.setRequests rest) hfetch hdec
  · rw [step, hreq]

end Sys2Proof.Machine

/-! PROOFS. What an instruction may leave: the state after `exec` written out field by field, and from it the frame of every
instruction (10_state.md R43). -/

namespace Sys2Proof.Machine

/-- The states instruction `i` may leave from `s`, by the fields it writes: a specifier or `Resolve` consumes and answers, the
rest is as the "written by" column of R43 has it. -/
inductive MayLeave (s : State) : Instr → State → Prop
  | consumed (i : Instr) (c : Nat) (o : Output) : MayLeave s i { s with cursor := c, out := o }
  | prefixed (i : Instr) (hprefix : i.prefixByte ≠ none) (c : Nat) (ip : Word) (seg : Option Seg) (a32 o32 : Bool)
      (o : Output) : MayLeave s i
        { s with cursor := c, ip := ip, segOverride := seg, addressSize32 := a32, operandSize32 := o32, out := o }
  | translated (tc : List (Nat × Word)) (wc : Nat) (o : Output) :
      MayLeave s .translate { s with tcache := tc, walkCount := wc, out := o }
  | read (tc : List (Nat × Word)) (wc : Nat) (vc : List VideoCall) (fi : Nat) (o : Output) :
      MayLeave s .memRead { s with tcache := tc, walkCount := wc, videoCalls := vc, freeIndex := fi, out := o }
  | written (tc : List (Nat × Word)) (wc : Nat) (vc : List VideoCall) (fi : Nat) (m : List Host.Cell) (o : Output) :
      MayLeave s .memWrite
        { s with tcache := tc, walkCount := wc, videoCalls := vc, freeIndex := fi, pmem := m, out := o }
  | fetched (tc : List (Nat × Word)) (wc : Nat) (vc : List VideoCall) (fi : Nat) (w : List Byte) (c : Nat) (o : Output) :
      MayLeave s .fetchWindow
        { s with tcache := tc, walkCount := wc, videoCalls := vc, freeIndex := fi, win := w, cursor := c, out := o }
  | basePointed (b : Word) (o : Output) : MayLeave s .writePdBase { s with pdBase := b, tcache := [], out := o }
  | flushed (o : Output) : MayLeave s .flushCache { s with tcache := [], out := o }
  | gated (m : Word) (o : Output) : MayLeave s .setA20 { s with a20Mask := m, out := o }
  | reset (o : Output) : MayLeave s .reset ((resetBlock s).setOut o)

/-- An operation that only consumes, as an instruction that answers a location. -/
theorem OnlyConsumes.mayLeave {f : State → Res (Location × RegIdx)} (hf : OnlyConsumes f) {i : Instr} {s t : State}
    (h : answerLocation (f s) = .next t) : MayLeave s i t := by
  rcases hf s with ⟨a, u, hu, n, rfl, -⟩ | hu <;> rw [answerLocation, hu] at h <;> cases h
  exact .consumed i _ _

theorem skipBytes_onlyAdvances {n : Nat} (s : State) :
    skipBytes n s = .ok () (s.setCursor (s.cursor + n)) ∨ skipBytes n s = .refused .windowOverrun := by
  by_cases hc : s.cursor + n ≤ windowLen
  · exact .inl (skipBytes_eq hc)
  · exact .inr (skipBytes_refused hc)

theorem completeForm_mayLeave {len : Nat} {loc : Location} {reg : RegIdx} {i : Instr} {s t : State}
    (h : completeForm len loc reg s = .next t) : MayLeave s i t := by
  rcases skipBytes_onlyAdvances (n := len) s with hs | hs <;> rw [completeForm, hs] at h <;> cases h
  exact .consumed i _ _

/-- An escape passes its own byte and resolves what follows (R173). -/
theorem escape_mayLeave {mod : BitVec 2} {reg : RegIdx} {i : Instr} {s t : State}
    (h : answerLocation ((skipBytes 1 s).bind fun _ u => resolveEscape mod reg u) = .next t) : MayLeave s i t := by
  rcases skipBytes_onlyAdvances (n := 1) s with hs | hs <;> rw [hs] at h
  · rw [Res.bind_ok] at h
    rcases resolveEscape_onlyConsumes mod reg (s.setCursor (s.cursor + 1)) with ⟨a, u, hu, n, rfl, -⟩ | hu <;>
      rw [answerLocation, hu] at h <;> cases h
    exact .consumed i _ _
  · cases h

theorem prefix_mayLeave {i : Instr} (hprefix : i.prefixByte ≠ none) {s t : State} (h : exec i s = .next t) :
    MayLeave s i t := by
  obtain ⟨f, hexec, hf⟩ := exec_of_prefixByte hprefix
  obtain ⟨-, rfl⟩ := completePrefix_next ((hexec s).symm.trans h)
  obtain ⟨seg, a32, o32, hset⟩ := hf (s.setCursor (s.cursor + 1))
  rw [hset]
  exact .prefixed i hprefix _ _ _ _ _ _

theorem execTranslate_mayLeave {s t : State} (h : execTranslate s = .next t) : MayLeave s .translate t := by
  rcases Res.toOutcome_eq_next h with ⟨p, u, hu, rfl⟩ | ⟨x, kind, u, hu, rfl⟩
  · obtain ⟨tc, wc, rfl⟩ := translate_frame hu
    exact .translated _ _ _
  · obtain ⟨-, -, rfl, -⟩ := translate_pageFault hu
    exact .translated _ _ _

theorem execMemRead_mayLeave {s t : State} (h : execMemRead s = .next t) : MayLeave s .memRead t := by
  rcases Res.toOutcome_eq_next h with ⟨bs, u, hu, rfl⟩ | ⟨x, kind, u, hu, rfl⟩
  · obtain ⟨-, _, _, _, _, rfl⟩ := memRead_ok hu
    exact .read _ _ _ _ _
  · obtain ⟨-, _, _, _, _, rfl⟩ := memRead_pageFault hu
    exact .read _ _ _ _ _

theorem execMemWrite_mayLeave {s t : State} (h : execMemWrite s = .next t) : MayLeave s .memWrite t := by
  rcases Res.toOutcome_eq_next h with ⟨_, u, hu, rfl⟩ | ⟨x, kind, u, hu, rfl⟩
  · obtain ⟨_, _, _, _, _, rfl⟩ := memWrite_frame.1 hu
    exact .written _ _ _ _ _ _
  · obtain ⟨-, _, _, _, _, _, rfl⟩ := memWrite_frame.2 hu
    exact .written _ _ _ _ _ _

/-- A fetch that raises PageFault is a read that does (R258). -/
theorem fetchWindow_pageFault {l x : Word} {kind : AccessKind} {s t : State} (h : fetchWindow l s = .pageFault x kind t) :
    kind = .instructionFetch ∧ ReadFrame s t := by
  rcases Res.bind_eq_pageFault h with h | ⟨_, _, _, h⟩
  · exact memRead_pageFault h
  · cases h

theorem execFetchWindow_mayLeave {s t : State} (h : execFetchWindow s = .next t) : MayLeave s .fetchWindow t := by
  rcases Res.toOutcome_eq_next h with ⟨bs, u, hu, rfl⟩ | ⟨x, kind, u, hu, rfl⟩
  · obtain ⟨-, _, -, ⟨_, _, _, _, rfl⟩, rfl⟩ := fetchWindow_ok hu
    exact .fetched _ _ _ _ _ _ _
  · obtain ⟨-, _, _, _, _, rfl⟩ := fetchWindow_pageFault hu
    exact .fetched _ _ _ _ _ _ _

theorem execWritePdBase_mayLeave {s t : State} (h : execWritePdBase s = .next t) : MayLeave s .writePdBase t := by
  unfold execWritePdBase writePdBase at h
  split_ifs at h <;> cases h
  exact .basePointed _ _

theorem exec_mayLeave {i : Instr} {s t : State} (h : exec i s = .next t) : MayLeave s i t := by
  cases i
  case prefixEs | prefixCs | prefixSs | prefixDs | prefixFs | prefixGs | prefixOpsize | prefixAddrsize =>
    refine prefix_mayLeave ?_ h
    exact Option.some_ne_none _
  case a32SibM0 | a32SibM1 | a32SibM2 => exact escape_mayLeave h
  case resolve => exact resolve_onlyConsumes.mayLeave h
  case translate => exact execTranslate_mayLeave h
  case memRead => exact execMemRead_mayLeave h
  case memWrite => exact execMemWrite_mayLeave h
  case fetchWindow => exact execFetchWindow_mayLeave h
  case writePdBase => exact execWritePdBase_mayLeave h
  case flushCache => cases h; exact .flushed _
  case setA20 => cases h; exact .gated _ _
  case reset => cases h; exact .reset _
  all_goals exact completeForm_mayLeave h

/-- Settles O42: the fields an instruction may have written are in `MayLeave`, and every clause of the frame names the
instructions whose case writes its field. -/
theorem execFrame : Obligations.ExecFrame := by
  intro i s t h
  cases exec_mayLeave h with
  | consumed => simp
  | prefixed _ hprefix => simp [hprefix]
  | translated => simp
  | read => simp
  | written => simp
  | fetched => simp
  | basePointed => simp
  | flushed => simp
  | gated => simp
  | reset => simp [resetBlock]

end Sys2Proof.Machine

/-! PROOFS. A dispatch cycle keeps IP, override, size bits and the queue until its epilog, which a completed instruction alone
reaches (45_port_ops.md R264, R265, R281). -/

namespace Sys2Proof.Machine

/-! ### Operations that end in a state related to their start -/

/-- Completed, the operation leaves a state that meets `P`; raising PageFault, one that meets `Q`. -/
def Res.Ends {α : Type} (P Q : State → Prop) : Res α → Prop
  | .ok _ s => P s
  | .pageFault _ _ s => Q s
  | .fault _ => True
  | .refused _ => True

theorem Res.Ends.intro {α : Type} {P Q : State → Prop} {r : Res α} (hok : ∀ a t, r = .ok a t → P t)
    (hfault : ∀ x k t, r = .pageFault x k t → Q t) : r.Ends P Q := by
  cases r with
  | ok a t => exact hok a t rfl
  | pageFault x k t => exact hfault x k t rfl
  | fault => trivial
  | refused => trivial

theorem Res.Ends.of_eq_ok {α : Type} {P Q : State → Prop} {r : Res α} {a : α} {t : State} (hr : r.Ends P Q)
    (h : r = .ok a t) : P t := by
  rw [h] at hr
  exact hr

theorem Res.Ends.bind {α β : Type} {P P' Q : State → Prop} {r : Res α} {f : α → State → Res β} (hr : r.Ends P Q)
    (hf : ∀ a s, P s → (f a s).Ends P' Q) : (r.bind f).Ends P' Q := by
  cases r with
  | ok a s => exact hf a s hr
  | pageFault => exact hr
  | fault => trivial
  | refused => trivial

/-- `t` has the context of `s`: what no part of a dispatch cycle before its epilog changes (R26, R36, R37, R40, R41, R281). -/
structure SameContext (s t : State) : Prop where
  cfg : t.cfg = s.cfg
  segBase : t.segBase = s.segBase
  ip : t.ip = s.ip
  addressSize32 : t.addressSize32 = s.addressSize32
  operandSize32 : t.operandSize32 = s.operandSize32
  defaultAddressSize32 : t.defaultAddressSize32 = s.defaultAddressSize32
  defaultOperandSize32 : t.defaultOperandSize32 = s.defaultOperandSize32
  segOverride : t.segOverride = s.segOverride
  requests : t.requests = s.requests
  args : t.args = s.args

theorem SameContext.refl (s : State) : SameContext s s := ⟨rfl, rfl, rfl, rfl, rfl, rfl, rfl, rfl, rfl, rfl⟩

theorem SameContext.trans {s t u : State} (h1 : SameContext s t) (h2 : SameContext t u) : SameContext s u :=
  ⟨h2.cfg.trans h1.cfg, h2.segBase.trans h1.segBase, h2.ip.trans h1.ip, h2.addressSize32.trans h1.addressSize32,
    h2.operandSize32.trans h1.operandSize32, h2.defaultAddressSize32.trans h1.defaultAddressSize32,
    h2.defaultOperandSize32.trans h1.defaultOperandSize32, h2.segOverride.trans h1.segOverride,
    h2.requests.trans h1.requests, h2.args.trans h1.args⟩

theorem Consumed.sameContext {s t : State} (h : Consumed s t) : SameContext s t := by
  obtain ⟨n, rfl, -⟩ := h
  exact ⟨rfl, rfl, rfl, rfl, rfl, rfl, rfl, rfl, rfl, rfl⟩

theorem WriteFrame.sameContext {s t : State} (h : WriteFrame s t) : SameContext s t := by
  obtain ⟨_, _, _, _, _, rfl⟩ := h
  exact ⟨rfl, rfl, rfl, rfl, rfl, rfl, rfl, rfl, rfl, rfl⟩

theorem StoreFrame.sameContext {s t : State} (h : StoreFrame s t) : SameContext s t := by
  obtain ⟨_, _, _, _, _, _, rfl⟩ := h
  exact ⟨rfl, rfl, rfl, rfl, rfl, rfl, rfl, rfl, rfl, rfl⟩

theorem MaintenanceFrame.sameContext {s t : State} (h : MaintenanceFrame s t) : SameContext s t := by
  obtain ⟨_, _, _, rfl⟩ := h
  exact ⟨rfl, rfl, rfl, rfl, rfl, rfl, rfl, rfl, rfl, rfl⟩

/-! ### The parts of a dispatch cycle keep the context of the state `s₀` it began in -/

section

variable {s₀ s : State} (hs : SameContext s₀ s)

include hs

theorem skipBytes_keepsContext (n : Nat) : (skipBytes n s).Ends (SameContext s₀) (SameContext s₀) := by
  rcases skipBytes_onlyAdvances (n := n) s with h | h <;> rw [h]
  · exact hs.trans ⟨rfl, rfl, rfl, rfl, rfl, rfl, rfl, rfl, rfl, rfl⟩
  · trivial

theorem OnlyConsumes.keepsContext {α : Type} {f : State → Res α} (hf : OnlyConsumes f) :
    (f s).Ends (SameContext s₀) (SameContext s₀) := by
  rcases hf s with ⟨a, t, h, ht⟩ | h <;> rw [h]
  · exact hs.trans ht.sameContext
  · trivial

theorem checkOperand_keepsContext (rm : Option RmOperand) (loc : Option (Location × RegIdx)) :
    (checkOperand rm loc s).Ends (SameContext s₀) (SameContext s₀) := by
  rcases checkOperand_cases rm loc s with h | h | h | h <;> rw [h]
  · exact hs
  all_goals trivial

theorem loadImplicits_keepsContext (os : List ImplicitOperand) :
    (loadImplicits os s).Ends (SameContext s₀) (SameContext s₀) :=
  .intro (fun _ _ h => hs.trans ((loadImplicits_frame os s).1 h).toWrite.sameContext)
    fun _ _ _ h => hs.trans ((loadImplicits_frame os s).2 h).2.toWrite.sameContext

theorem loadRm_keepsContext (rm : Option RmOperand) (loc : Option (Location × RegIdx)) :
    (loadRm rm loc s).Ends (SameContext s₀) (SameContext s₀) :=
  .intro (fun _ _ h => hs.trans ((loadRm_frame rm loc s).1 h).toWrite.sameContext)
    fun _ _ _ h => hs.trans ((loadRm_frame rm loc s).2 h).2.toWrite.sameContext

theorem applyHandler_keepsContext (h : HandlerAnswer) : (applyHandler h s).Ends (SameContext s₀) (SameContext s₀) := by
  rcases applyHandler_frame h s with ⟨t, g, ht, hr⟩ | hr <;> rw [hr]
  · exact (hs.trans ht.sameContext).trans ⟨rfl, rfl, rfl, rfl, rfl, rfl, rfl, rfl, rfl, rfl⟩
  · trivial

theorem storeRegisters_keepsContext (d : Descriptor) (h : HandlerAnswer) (loc : Option (Location × RegIdx)) :
    SameContext s₀ (storeRegField d.specifier loc h.reg (storeFixed d.fixed h.fixed s)) := by
  obtain ⟨g, hg⟩ := storeFixed_frame d.fixed h.fixed s
  obtain ⟨g', hg'⟩ := storeRegField_frame d.specifier loc h.reg (storeFixed d.fixed h.fixed s)
  rw [hg', hg]
  exact hs.trans ⟨rfl, rfl, rfl, rfl, rfl, rfl, rfl, rfl, rfl, rfl⟩

theorem storeImplicits_keepsContext (os : List ImplicitOperand) (vs : List Nat) :
    (storeImplicits os vs s).Ends (SameContext s₀) (SameContext s₀) :=
  .intro (fun _ _ h => hs.trans ((storeImplicits_frame os vs s).1 h).sameContext)
    fun _ _ _ h => hs.trans ((storeImplicits_frame os vs s).2 h).2.sameContext

theorem storeRm_keepsContext (rm : Option RmOperand) (loc : Option (Location × RegIdx)) (v : Nat) :
    (storeRm rm loc v s).Ends (SameContext s₀) (SameContext s₀) :=
  .intro (fun _ _ h => hs.trans ((storeRm_frame rm loc v s).1 h).sameContext)
    fun _ _ _ h => hs.trans ((storeRm_frame rm loc v s).2 h).2.sameContext

end

theorem fetchWindow_keepsContext (l : Word) (s : State) : (fetchWindow l s).Ends (SameContext s) (SameContext s) := by
  refine .intro (fun bs t h => ?_) fun x k t h => (fetchWindow_pageFault h).2.toWrite.sameContext
  obtain ⟨-, u, -, hu, rfl⟩ := fetchWindow_ok h
  exact hu.toWrite.sameContext.trans ⟨rfl, rfl, rfl, rfl, rfl, rfl, rfl, rfl, rfl, rfl⟩

/-- `t` is what the IP update and the epilog make of a state with the context of `s` (R264, R265). -/
def Retired (s t : State) : Prop := ∃ u, SameContext s u ∧ t = epilog u.advanceIp

/-- A completed instruction ends with the epilog; one that raises PageFault keeps the whole context (R281). -/
theorem runInstruction_ends (d : Descriptor) (h : HandlerAnswer) (s : State) :
    (runInstruction d h s).Ends (Retired s) (SameContext s) :=
  (skipBytes_keepsContext (.refl s) d.opcodeLen).bind fun _ _ hs =>
  (OnlyConsumes.keepsContext hs (locate_onlyConsumes d.specifier)).bind fun loc _ hs =>
  (checkOperand_keepsContext hs _ loc).bind fun _ _ hs =>
  (OnlyConsumes.keepsContext hs (fetchImmediates_onlyConsumes d.immediates)).bind fun _ _ hs =>
  (loadImplicits_keepsContext hs d.implicit).bind fun _ _ hs =>
  (loadRm_keepsContext hs _ loc).bind fun _ _ hs =>
  (applyHandler_keepsContext hs h).bind fun _ _ hs =>
  (storeImplicits_keepsContext (storeRegisters_keepsContext hs d h loc) d.implicit h.implicit).bind fun _ _ hs =>
  (storeRm_keepsContext hs _ loc h.rm).bind fun _ u hs => ⟨u, hs, rfl⟩

/-! ### What a dispatch cycle can do -/

/-- A dispatch that answers a next state has found a procedure, and its instruction completed or raised PageFault. -/
theorem dispatchOpcode_next {a : DispatchAnswer} {s t : State} (hnext : dispatchOpcode a s = .next t) :
    ∃ procedures h d, a = .entry procedures h ∧ procedures.get (slotIndex s) = some d ∧
      ((∃ values u, runInstruction d h s = .ok values u ∧ t = u.setOut (.operands values)) ∨
        ∃ x kind u, runInstruction d h s = .pageFault x kind u ∧ t = signalPageFault x kind u) := by
  unfold dispatchOpcode at hnext
  split at hnext
  · cases hnext
  · next procedures h =>
    split at hnext
    · next d hd => exact ⟨procedures, h, d, rfl, hd, Res.toOutcome_eq_next hnext⟩
    · cases hnext

/-- A cycle that answers a next state has run one of the prefixes, dispatched an opcode, or signalled its fetch's PageFault. -/
theorem runCycle_next {a : DispatchAnswer} {s t : State} (hnext : runCycle a s = .next t) :
    (∃ bs u i left, fetchWindow (fetchAddress s) s = .ok bs u ∧ decodePrefix u.win = .ok i left ∧
      exec i (u.setRequests (.cycle a :: u.requests)) = .next t) ∨
    (∃ bs u, fetchWindow (fetchAddress s) s = .ok bs u ∧ dispatchOpcode a u = .next t) ∨
    ∃ x kind u, fetchWindow (fetchAddress s) s = .pageFault x kind u ∧ t = signalPageFault x kind u := by
  unfold runCycle at hnext
  split at hnext
  · next bs u hfetch =>
    split at hnext
    · next i left hdecode => exact .inl ⟨bs, u, i, left, hfetch, hdecode, hnext⟩
    · exact .inr (.inl ⟨bs, u, hfetch, hnext⟩)
  · next x kind u hfetch => cases hnext; exact .inr (.inr ⟨x, kind, u, hfetch, rfl⟩)
  · cases hnext
  · cases hnext

/-- The prefixes answer nothing. -/
theorem exec_prefix_out {i : Instr} {s t : State} (hprefix : i.prefixByte ≠ none) (h : exec i s = .next t) :
    t.out = .nothing := by
  obtain ⟨f, hexec, -⟩ := exec_of_prefixByte hprefix
  obtain ⟨-, rfl⟩ := completePrefix_next ((hexec s).symm.trans h)
  rfl

/-- Only an instruction that completed hands out operand values, and it has retired. -/
theorem runCycle_operands {a : DispatchAnswer} {s t : State} {values : OperandValues} (hnext : runCycle a s = .next t)
    (hout : t.out = .operands values) : ∃ u, Retired s u ∧ t = u.setOut (.operands values) := by
  rcases runCycle_next hnext with ⟨_, u, i, left, -, hdecode, hexec⟩ | ⟨bs, u, hfetch, hdispatch⟩ |
    ⟨x, kind, u, -, rfl⟩
  · rw [exec_prefix_out (decodePrefix_prefixByte hdecode) hexec] at hout
    cases hout
  · obtain ⟨_, h, d, -, -, ⟨values', v, hrun, rfl⟩ | ⟨_, _, _, -, rfl⟩⟩ := dispatchOpcode_next hdispatch
    · cases hout
      have hu : SameContext s u := (fetchWindow_keepsContext (fetchAddress s) s).of_eq_ok hfetch
      obtain ⟨w, hw, rfl⟩ : Retired u v := (runInstruction_ends d h u).of_eq_ok hrun
      exact ⟨_, ⟨w, hu.trans hw, rfl⟩, rfl⟩
    · cases hout
  · cases hout

/-- Settles O49: the cycle's instruction has retired, so IP, override, size bits and queue are those of a state with the
context of `s`, advanced and put back to the defaults. -/
theorem completedInstructionAdvancesIp : Obligations.CompletedInstructionAdvancesIp := by
  intro s t answer rest values hreq hnext hout
  obtain ⟨_, ⟨u, hu, rfl⟩, rfl⟩ := runCycle_operands ((step_of_request hreq).symm.trans hnext) hout
  exact ⟨congrArg (· + BitVec.ofNat 32 u.cursor) hu.ip, rfl, hu.defaultAddressSize32, hu.defaultOperandSize32, hu.requests⟩

end Sys2Proof.Machine

/-! PROOFS. No instruction reads or writes a flag (10_state.md R42): every operation of the block commutes with a change of the
flags word. The operations on memory commute with a change of the general registers as well. -/

namespace Sys2Proof.Machine

/-! ### Operations that commute with an update of the state -/

/-- The same answer, in updated states. -/
def Res.mapState {α : Type} (u : State → State) : Res α → Res α
  | .ok a s => .ok a (u s)
  | .pageFault x kind s => .pageFault x kind (u s)
  | .fault f => .fault f
  | .refused r => .refused r

/-- From the updated state the operation answers the same and leaves the updated states: it neither reads nor writes what `u`
changes. -/
def Commutes {α : Type} (u : State → State) (f : State → Res α) : Prop := ∀ s, f (u s) = (f s).mapState u

theorem Commutes.bind {α β : Type} {u : State → State} {f : State → Res α} {g : α → State → Res β}
    (hf : Commutes u f) (hg : ∀ a, Commutes u (g a)) : Commutes u fun s => (f s).bind g := by
  intro s
  show (f (u s)).bind g = ((f s).bind g).mapState u
  rw [hf s]
  cases f s with
  | ok a t => exact hg a t
  | pageFault | fault | refused => rfl

theorem Commutes.ite {α : Type} {u : State → State} {c : State → Prop} [∀ s, Decidable (c s)] {f g : State → Res α}
    (hc : ∀ s, c (u s) ↔ c s) (hf : Commutes u f) (hg : Commutes u g) : Commutes u fun s => if c s then f s else g s := by
  intro s
  by_cases h : c s
  · simpa only [hc, h, if_true] using hf s
  · simpa only [hc, h, if_false] using hg s

/-- The state with its general registers changed by `g` and flags word `v`. -/
def State.withRegs (g : Vector Word 8 → Vector Word 8) (v : Word) (s : State) : State := { s with gpr := g s.gpr, flags := v }

/-! ### Memory operations see no register and no flag -/

section

variable (g : Vector Word 8 → Vector Word 8) (v : Word)

theorem physRead_commutes (p : Word) (n : Nat) : Commutes (.withRegs g v) (physRead p n) :=
  .ite (fun _ => Iff.rfl) (fun _ => rfl) fun _ => rfl

theorem loadBytes_commutes (p : Word) (n : Nat) : Commutes (.withRegs g v) (loadBytes p n) :=
  .ite (fun _ => Iff.rfl) (fun _ => rfl) (physRead_commutes g v p n)

theorem storeBytes_commutes (p : Word) (bs : List Byte) : Commutes (.withRegs g v) (storeBytes p bs) :=
  .ite (fun _ => Iff.rfl) (fun _ => rfl) (.ite (fun _ => Iff.rfl) (fun _ => rfl) fun _ => rfl)

theorem readEntry_commutes (a : Word) : Commutes (.withRegs g v) (readEntry a) :=
  (physRead_commutes g v a 4).bind fun _ _ => rfl

theorem walk_commutes (l : Word) (kind : AccessKind) : Commutes (.withRegs g v) (walk l kind) := by
  intro s
  refine ((readEntry_commutes g v (s.pdBase + dirIndex l * 4)).bind fun pde => ?_) s.countWalk
  exact .ite (fun _ => Iff.rfl)
    ((readEntry_commutes g v _).bind fun pte => .ite (fun _ => Iff.rfl) (fun _ => rfl) fun _ => rfl) fun _ => rfl

theorem translate_commutes (l : Word) (kind : AccessKind) : Commutes (.withRegs g v) (translate l kind) := by
  refine .ite (fun _ => Iff.rfl) (fun _ => rfl) fun s => ?_
  have hcache : (s.withRegs g v).tcache = s.tcache := rfl
  simp only [hcache]
  cases Tcache.find? s.tcache (pageNumber l) with
  | some base => rfl
  | none => exact walk_commutes g v l kind s

theorem readByteByByte_commutes (kind : AccessKind) (n : Nat) (l : Word) :
    Commutes (.withRegs g v) (readByteByByte kind n l) := by
  induction n generalizing l with
  | zero => exact fun _ => rfl
  | succ n ih =>
    exact (translate_commutes g v l kind).bind fun p => (loadBytes_commutes g v p 1).bind fun _ =>
      (ih (l + 1)).bind fun _ _ => rfl

theorem writeByteByByte_commutes (bs : List Byte) (l : Word) : Commutes (.withRegs g v) (writeByteByByte bs l) := by
  induction bs generalizing l with
  | nil => exact fun _ => rfl
  | cons b bs ih =>
    exact (translate_commutes g v l .write).bind fun p => (storeBytes_commutes g v p [b]).bind fun _ => ih (l + 1)

theorem memRead_commutes (l : Word) (n : Nat) (kind : AccessKind) : Commutes (.withRegs g v) (memRead l n kind) :=
  .ite (fun _ => Iff.rfl) (readByteByByte_commutes g v kind n l)
    ((translate_commutes g v l kind).bind fun p => loadBytes_commutes g v p n)

theorem memWrite_commutes (l : Word) (bs : List Byte) : Commutes (.withRegs g v) (memWrite l bs) :=
  .ite (fun _ => Iff.rfl) (writeByteByByte_commutes g v bs l)
    ((translate_commutes g v l .write).bind fun p => storeBytes_commutes g v p bs)

theorem fetchWindow_commutes (l : Word) : Commutes (.withRegs g v) (fetchWindow l) :=
  (memRead_commutes g v l windowLen .instructionFetch).bind fun _ _ => rfl

theorem writePdBase_commutes (b : Word) : Commutes (.withRegs g v) (writePdBase b) :=
  .ite (fun _ => Iff.rfl) (fun _ => rfl) fun _ => rfl

theorem skipBytes_commutes (n : Nat) : Commutes (.withRegs g v) (skipBytes n) :=
  .ite (fun _ => Iff.rfl) (fun _ => rfl) fun _ => rfl

theorem fetch8_commutes : Commutes (.withRegs g v) fetch8 := by
  intro s
  have hbyte : (s.withRegs g v).win[(s.withRegs g v).cursor]? = s.win[s.cursor]? := rfl
  unfold fetch8
  rw [hbyte]
  cases s.win[s.cursor]? <;> rfl

theorem fetch16_commutes : Commutes (.withRegs g v) fetch16 :=
  (fetch8_commutes g v).bind fun _ => (fetch8_commutes g v).bind fun _ _ => rfl

theorem fetch32_commutes : Commutes (.withRegs g v) fetch32 :=
  (fetch16_commutes g v).bind fun _ => (fetch16_commutes g v).bind fun _ _ => rfl

theorem addDisp16_commutes (mod : BitVec 2) (sum : BitVec 16) : Commutes (.withRegs g v) (addDisp16 mod sum) :=
  .ite (fun _ => Iff.rfl) ((fetch8_commutes g v).bind fun _ _ => rfl)
    (.ite (fun _ => Iff.rfl) ((fetch16_commutes g v).bind fun _ _ => rfl) fun _ => rfl)

theorem addDisp32_commutes (mod : BitVec 2) (sum : Word) : Commutes (.withRegs g v) (addDisp32 mod sum) :=
  .ite (fun _ => Iff.rfl) ((fetch8_commutes g v).bind fun _ _ => rfl)
    (.ite (fun _ => Iff.rfl) ((fetch32_commutes g v).bind fun _ _ => rfl) fun _ => rfl)

end

/-! ### The resolver sees registers, but no flag -/

section

variable (v : Word)

theorem resolve16_commutes : Commutes (.withRegs id v) resolve16 :=
  (fetch8_commutes id v).bind fun _ => .ite (fun _ => Iff.rfl) (fun _ => rfl)
    (.ite (fun _ => Iff.rfl) ((fetch16_commutes id v).bind fun _ _ => rfl)
      fun s => ((addDisp16_commutes id v _ _).bind fun _ _ => rfl) s)

theorem resolveSib_commutes (mod : BitVec 2) : Commutes (.withRegs id v) (resolveSib mod) :=
  (fetch8_commutes id v).bind fun sib s =>
    (Commutes.ite (c := fun _ => baseOf sib = 5 ∧ mod = 0) (fun _ => Iff.rfl)
      ((fetch32_commutes id v).bind fun _ _ => rfl) fun _ => rfl) s

theorem resolveEscape_commutes (mod : BitVec 2) (reg : RegIdx) : Commutes (.withRegs id v) (resolveEscape mod reg) :=
  (resolveSib_commutes v mod).bind fun _ => (addDisp32_commutes id v _ _).bind fun _ _ => rfl

theorem resolve32_commutes : Commutes (.withRegs id v) resolve32 :=
  (fetch8_commutes id v).bind fun _ => .ite (fun _ => Iff.rfl) (fun _ => rfl)
    (.ite (fun _ => Iff.rfl) (resolveEscape_commutes v _ _)
      (.ite (fun _ => Iff.rfl) ((fetch32_commutes id v).bind fun _ _ => rfl)
        fun s => ((addDisp32_commutes id v _ _).bind fun _ _ => rfl) s))

theorem resolve_commutes : Commutes (.withRegs id v) resolve :=
  .ite (fun _ => Iff.rfl) (resolve32_commutes v) (resolve16_commutes v)

end

/-! ### Instructions -/

/-- The step of an operation that commutes, where putting its result out does. -/
theorem Commutes.toOutcome {α : Type} {g : Vector Word 8 → Vector Word 8} {v : Word} {f : State → Res α}
    {k : α → State → State} {s t : State} (hf : Commutes (.withRegs g v) f)
    (hk : ∀ a u, k a (u.withRegs g v) = (k a u).withRegs g v) (h : (f s).toOutcome k = .next t) :
    (f (s.withRegs g v)).toOutcome k = .next (t.withRegs g v) := by
  rw [hf s]
  rcases Res.toOutcome_eq_next h with ⟨a, u, hu, rfl⟩ | ⟨x, kind, u, hu, rfl⟩ <;> rw [hu]
  · exact congrArg Host.Outcome.next (hk a u)
  · rfl

theorem completeForm_withRegs {g : Vector Word 8 → Vector Word 8} {v : Word} {len : Nat} {loc : Location} {reg : RegIdx}
    {s t : State} (h : completeForm len loc reg s = .next t) :
    completeForm len loc reg (s.withRegs g v) = .next (t.withRegs g v) :=
  (skipBytes_commutes g v len).toOutcome (fun _ _ => rfl) h

/-- An instruction started with another flags word does the same and keeps that word. -/
theorem exec_withFlags {i : Instr} {s t : State} (v : Word) (h : exec i s = .next t) :
    exec i (s.withRegs id v) = .next (t.withRegs id v) := by
  cases i
  case prefixEs | prefixCs | prefixSs | prefixDs | prefixFs | prefixGs | prefixOpsize | prefixAddrsize =>
    exact (skipBytes_commutes id v 1).toOutcome (fun _ _ => rfl) h
  case a32SibM0 | a32SibM1 | a32SibM2 =>
    exact ((skipBytes_commutes id v 1).bind fun _ => resolveEscape_commutes v _ _).toOutcome (fun _ _ => rfl) h
  case resolve => exact (resolve_commutes v).toOutcome (fun _ _ => rfl) h
  case translate => exact (translate_commutes id v _ _).toOutcome (fun _ _ => rfl) h
  case memRead => exact (memRead_commutes id v _ _ _).toOutcome (fun _ _ => rfl) h
  case memWrite => exact (memWrite_commutes id v _ _).toOutcome (fun _ _ => rfl) h
  case fetchWindow => exact (fetchWindow_commutes id v _).toOutcome (fun _ _ => rfl) h
  case writePdBase => exact (writePdBase_commutes id v _).toOutcome (fun _ _ => rfl) h
  case flushCache | setA20 | reset => cases h; rfl
  all_goals exact completeForm_withRegs h

/-- Settles O41: started with the flags word it has, an instruction keeps it, for it keeps whatever word it is started with. -/
theorem flagsNeitherReadNorWritten : Obligations.FlagsNeitherReadNorWritten := by
  intro i s t v h
  have hsame : exec i s = .next (t.withRegs id s.flags) := exec_withFlags s.flags h
  have ht : t = t.withRegs id s.flags := by rw [h] at hsame; injection hsame
  have hflags : t.flags = s.flags := (congrArg State.flags ht).trans rfl
  exact ⟨hflags, exec_withFlags v h⟩

end Sys2Proof.Machine

/-! PROOFS. An access as its translations and accesses (20_memory.md R65, R72): one of each where it does not straddle a page,
else one for each byte; and what it does where every byte is reached without a walk. -/

namespace Sys2Proof.Machine

open Sys2Proof.Claims

/-! ### One access of the backing store or of the video window -/

/-- The model's window test says what R71 says. -/
theorem inVram_iff (c : Config) (p : Word) :
    inVram c p = true ↔ c.vramBase ≤ p.toNat ∧ p.toNat < c.vramBase + c.vramSize := by
  rw [inVram, Bool.and_eq_true, decide_eq_true_eq, decide_eq_true_eq]

theorem inVram_eq_false_iff (c : Config) (p : Word) :
    inVram c p = false ↔ ¬ (c.vramBase ≤ p.toNat ∧ p.toNat < c.vramBase + c.vramSize) := by
  rw [← inVram_iff, Bool.not_eq_true]

theorem loadBytes_vram {p : Word} {n : Nat} {s : State} (hv : inVram s.cfg p = true) :
    loadBytes p n s = .ok (freeBytes s.freeIndex n) (s.logVideo (.read p n)).drawFree := by
  rw [loadBytes, if_pos hv, videoRead]

theorem loadBytes_store {p : Word} {n : Nat} {s : State} (hv : inVram s.cfg p = false)
    (hp : p.toNat + n ≤ s.cfg.physSize) : loadBytes p n s = .ok (Memory.readBytes s.pmem p.toNat n) s := by
  rw [loadBytes, hv, if_neg Bool.false_ne_true, physRead, if_pos hp]

theorem storeBytes_vram {p : Word} {bs : List Byte} {s : State} (hv : inVram s.cfg p = true) :
    storeBytes p bs s = .ok () (s.logVideo (.write p bs)) := by
  rw [storeBytes, if_pos hv, videoWrite]

theorem storeBytes_store {p : Word} {bs : List Byte} {s : State} (hv : inVram s.cfg p = false)
    (hp : p.toNat + bs.length ≤ s.cfg.physSize) :
    storeBytes p bs s = .ok () (s.setMem (Memory.writeBytes s.pmem p.toNat bs)) := by
  rw [storeBytes, hv, if_neg Bool.false_ne_true, physWrite, if_pos hp]

/-! ### Straddling or not (R65) -/

theorem straddles_iff (l : Word) (n : Nat) : straddles l n = true ↔ 4096 < l.toNat % 4096 + n := by
  rw [straddles, decide_eq_true_eq, pageOffset_toNat]

theorem memRead_of_fits {l : Word} {n : Nat} {kind : AccessKind} {s : State} (h : l.toNat % 4096 + n ≤ 4096) :
    memRead l n kind s = (translate l kind s).bind fun p t => loadBytes p n t := by
  rw [memRead, if_neg]
  rwa [straddles_iff, Nat.not_lt]

theorem memRead_of_straddles {l : Word} {n : Nat} {kind : AccessKind} {s : State} (h : 4096 < l.toNat % 4096 + n) :
    memRead l n kind s = readByteByByte kind n l s := by
  rw [memRead, if_pos ((straddles_iff l n).mpr h)]

theorem memWrite_of_fits {l : Word} {bs : List Byte} {s : State} (h : l.toNat % 4096 + bs.length ≤ 4096) :
    memWrite l bs s = (translate l .write s).bind fun p t => storeBytes p bs t := by
  rw [memWrite, if_neg]
  rwa [straddles_iff, Nat.not_lt]

theorem memWrite_of_straddles {l : Word} {bs : List Byte} {s : State} (h : 4096 < l.toNat % 4096 + bs.length) :
    memWrite l bs s = writeByteByByte bs l s := by
  rw [memWrite, if_pos ((straddles_iff l _).mpr h)]

/-- The first byte of a straddling read is an access of one byte; the others follow. -/
theorem readByteByByte_succ (kind : AccessKind) (n : Nat) (l : Word) (s : State) :
    readByteByByte kind (n + 1) l s = ((translate l kind s).bind fun p t => loadBytes p 1 t).bind fun b t =>
      (readByteByByte kind n (l + 1) t).bind fun bs u => .ok (b ++ bs) u :=
  (Res.bind_assoc _ _ _).symm

/-- The first byte of a straddling write is an access of one byte; the others follow. -/
theorem writeByteByByte_cons (b : Byte) (bs : List Byte) (l : Word) (s : State) :
    writeByteByByte (b :: bs) l s = ((translate l .write s).bind fun p t => storeBytes p [b] t).bind fun _ t =>
      writeByteByByte bs (l + 1) t :=
  (Res.bind_assoc _ _ _).symm

/-- `Translate` leaves configuration and backing store as they were. -/
theorem translate_keeps_store {l p : Word} {kind : AccessKind} {s t : State} (h : translate l kind s = .ok p t) :
    t.cfg = s.cfg ∧ t.pmem = s.pmem := by
  obtain ⟨_, _, rfl⟩ := translate_frame h
  exact ⟨rfl, rfl⟩

/-- Settles O33: a non-straddling access is the bind of `translate` and one load or store, and the window test at the result
selects the video handler or the backing store. -/
theorem oneTranslateOneAccess : Obligations.OneTranslateOneAccess := by
  intro s u p hfit
  have hread (ht : translate s.args.linear s.args.kind s = .ok p u) :
      exec .memRead s = (loadBytes p s.args.count u).toOutcome fun bytes t =>
        t.setOut (.value s.args.count (leValue bytes)) := by
    show execMemRead s = _
    rw [execMemRead, memRead_of_fits hfit, ht, Res.bind_ok]
  have hwrite (ht : translate s.args.linear .write s = .ok p u) :
      exec .memWrite s = (storeBytes p (leBytes s.args.count s.args.value) u).toOutcome fun _ t =>
        t.setOut .nothing := by
    show execMemWrite s = _
    rw [execMemWrite, memWrite_of_fits (by rwa [leBytes_length]), ht, Res.bind_ok]
  refine ⟨fun ht => ⟨fun hv => ?_, fun hv hp => ?_⟩, fun ht => ⟨fun hv => ?_, fun hv hp => ?_⟩⟩ <;>
    obtain ⟨hcfg, hmem⟩ := translate_keeps_store ht
  · rw [← hcfg, ← inVram_iff] at hv
    exact ⟨freeBytes u.freeIndex s.args.count, freeBytes_length _ _, by rw [hread ht, loadBytes_vram hv]; rfl⟩
  · rw [← hcfg, ← inVram_eq_false_iff] at hv
    rw [hread ht, loadBytes_store hv (hcfg ▸ hp), ← hmem]
    rfl
  · rw [← hcfg, ← inVram_iff] at hv
    rw [hwrite ht, storeBytes_vram hv]
    rfl
  · rw [← hcfg, ← inVram_eq_false_iff] at hv
    rw [hwrite ht, storeBytes_store hv (by rwa [leBytes_length, hcfg]), ← hmem]
    rfl

/-! ### Bytes reached without a walk -/

/-- A page base joined with a page offset is their sum. -/
theorem or_pageOffset_eq_add {b : Word} (l : Word) (hb : b &&& 0xFFF#32 = 0#32) :
    b ||| pageOffset l = b + BitVec.ofNat 32 (l.toNat % 4096) := by
  have hdisjoint : b &&& pageOffset l = 0#32 := by
    rw [pageOffset, BitVec.and_comm l, ← BitVec.and_assoc, hb, BitVec.zero_and]
  rw [← BitVec.add_eq_or_of_and_eq_zero _ _ hdisjoint, ← pageOffset_toNat, BitVec.ofNat_toNat, BitVec.setWidth_eq]

/-- Where `physOf` knows the address, `Translate` answers it and changes nothing (R227, R229). -/
theorem translate_of_physOf {s : State} {l p : Word} {kind : AccessKind} (hcache : Tcache.wf s.tcache = true)
    (h : physOf s l = some p) : translate l kind s = .ok p s := by
  unfold physOf at h
  split_ifs at h with hbase
  · cases h
    rw [translate, if_pos hbase]
  · obtain ⟨base, hfind, rfl⟩ := Option.map_eq_some_iff.mp h
    rw [translate, if_neg hbase, show Tcache.find? s.tcache (pageNumber l) = some base from hfind,
      ← or_pageOffset_eq_add l (Tcache.find?_aligned hcache hfind)]

/-- An address of the same page is the sum without a wrap (R63). -/
theorem toNat_add_samePage {l : Word} {i : Nat} (hpage : l.toNat % 4096 + i < 4096) :
    (l + BitVec.ofNat 32 i).toNat = l.toNat + i := by
  have := l.isLt
  rw [BitVec.toNat_add, BitVec.toNat_ofNat]
  omega

/-- Neither setting of the A20 gate tears a page apart (R23). -/
theorem and_a20Mask_add {m : Word} {l : Word} {i : Nat} (hm : m = 0x000FFFFF#32 ∨ m = 0xFFFFFFFF#32)
    (hpage : l.toNat % 4096 + i < 4096) : ((l + BitVec.ofNat 32 i) &&& m).toNat = (l &&& m).toNat + i := by
  have hsum := toNat_add_samePage hpage
  have hlow (x : Word) : (x &&& 0x000FFFFF#32).toNat = x.toNat % 2 ^ 20 :=
    (BitVec.toNat_and x _).trans (Nat.and_two_pow_sub_one_eq_mod x.toNat 20)
  have hall (x : Word) : x &&& 0xFFFFFFFF#32 = x := BitVec.and_allOnes
  rcases hm with rfl | rfl
  · rw [hlow, hlow, hsum]
    omega
  · rw [hall, hall, hsum]

/-- The bytes of one page that need no walk lie at consecutive physical addresses. -/
theorem physOf_samePage {s : State} {l p q : Word} {i : Nat} (hs : s.Inv) (hpage : l.toNat % 4096 + i < 4096)
    (hp : physOf s l = some p) (hq : physOf s (l + BitVec.ofNat 32 i) = some q) : q.toNat = p.toNat + i := by
  obtain ⟨-, -, hmask, hcache, -⟩ := hs
  have hsum := toNat_add_samePage hpage
  unfold physOf at hp hq
  split_ifs at hp hq with hbase
  · cases hp
    cases hq
    exact and_a20Mask_add hmask hpage
  · rw [hsum, show (l.toNat + i) / 4096 = l.toNat / 4096 by omega] at hq
    obtain ⟨base, hfind, rfl⟩ := Option.map_eq_some_iff.mp hp
    rw [hfind, Option.map_some] at hq
    cases hq
    have haligned : base.toNat % 4096 = 0 := (aligned_iff base).mp (Tcache.find?_aligned hcache hfind)
    have := base.isLt
    simp only [BitVec.toNat_add, BitVec.toNat_ofNat]
    omega

theorem loadByte_of_storeByteAt {s : State} {l p : Word} {kind : AccessKind} (hcache : Tcache.wf s.tcache = true)
    (h : storeByteAt s l p) :
    ((translate l kind s).bind fun p t => loadBytes p 1 t) = .ok [Memory.read s.pmem p.toNat] s := by
  obtain ⟨hp, hv, hsize⟩ := h
  rw [translate_of_physOf hcache hp, Res.bind_ok, loadBytes_store ((inVram_eq_false_iff _ _).mpr hv) hsize]
  rfl

theorem storeByte_of_storeByteAt {s : State} {l p : Word} (b : Byte) (hcache : Tcache.wf s.tcache = true)
    (h : storeByteAt s l p) :
    ((translate l .write s).bind fun p t => storeBytes p [b] t) =
      .ok () (s.setMem (Memory.write s.pmem p.toNat b)) := by
  obtain ⟨hp, hv, hsize⟩ := h
  rw [translate_of_physOf hcache hp, Res.bind_ok,
    storeBytes_store (bs := [b]) ((inVram_eq_false_iff _ _).mpr hv) hsize]
  rfl

/-! ### Several bytes as a map and as a fold over their numbers -/

theorem ofNat_succ_add (l : Word) (k : Nat) : l + BitVec.ofNat 32 k + 1 = l + BitVec.ofNat 32 (k + 1) := by
  rw [BitVec.add_assoc, BitVec.ofNat_add]
  rfl

theorem storeEach_succ (m : List Host.Cell) (p : Nat → Word) (k v : Nat) :
    storeEach m p (k + 1) v = Memory.write (storeEach m p k v) (p k).toNat (BitVec.ofNat 8 (v / 256 ^ k)) := by
  rw [storeEach, List.range_succ, List.foldl_append]
  rfl

theorem Memory.readBytes_eq_map {p : Nat → Word} (m : List Host.Cell) (n : Nat) {a : Nat}
    (hp : ∀ i, i < n → (p i).toNat = a + i) :
    Memory.readBytes m a n = (List.range n).map fun i => Memory.read m (p i).toNat := by
  induction n generalizing a p with
  | zero => rfl
  | succ n ih =>
    have hrest : ∀ i, i < n → (p (i + 1)).toNat = a + 1 + i := fun i hi => by
      rw [hp (i + 1) (by omega)]
      omega
    rw [Memory.readBytes, ih hrest, List.range_succ_eq_map, List.map_cons, List.map_map, hp 0 (by omega)]
    rfl

theorem Memory.writeBytes_eq_storeEach {p : Nat → Word} (m : List Host.Cell) (n v : Nat) {a : Nat}
    (hp : ∀ i, i < n → (p i).toNat = a + i) : Memory.writeBytes m a (leBytes n v) = storeEach m p n v := by
  induction n generalizing a p m v with
  | zero => rfl
  | succ n ih =>
    have hrest : ∀ i, i < n → (p (i + 1)).toNat = a + 1 + i := fun i hi => by
      rw [hp (i + 1) (by omega)]
      omega
    have hbyte (i : Nat) : v / 256 / 256 ^ i = v / 256 ^ (i + 1) := by
      rw [Nat.div_div_eq_div_mul, Nat.pow_succ, Nat.mul_comm]
    rw [leBytes, Memory.writeBytes, ih (p := fun i => p (i + 1)) _ _ hrest, storeEach, storeEach, List.range_succ_eq_map,
      List.foldl_cons, List.foldl_map, hp 0 (by omega)]
    simp only [hbyte, Nat.pow_zero, Nat.div_one, Nat.add_zero]

/-! ### Reads and writes of bytes reached without a walk -/

/-- The first `k` bytes of a byte-by-byte read, reached without a walk, are read and change nothing; the others follow. -/
theorem readByteByByte_reachable {s : State} {l : Word} {p : Nat → Word} {n k : Nat} (kind : AccessKind)
    (hcache : Tcache.wf s.tcache = true) (hk : k ≤ n)
    (h : ∀ i, i < k → storeByteAt s (l + BitVec.ofNat 32 i) (p i)) :
    readByteByByte kind n l s = (readByteByByte kind (n - k) (l + BitVec.ofNat 32 k) s).bind fun bs t =>
      .ok (((List.range k).map fun i => Memory.read s.pmem (p i).toNat) ++ bs) t := by
  induction k with
  | zero =>
    rw [BitVec.add_zero, Nat.sub_zero]
    cases readByteByByte kind n l s <;> rfl
  | succ k ih =>
    have hnext : n - k = n - (k + 1) + 1 := by omega
    rw [ih (by omega) fun i hi => h i (by omega), hnext, readByteByByte_succ,
      loadByte_of_storeByteAt hcache (h k (by omega)), Res.bind_ok, Res.bind_assoc, ofNat_succ_add]
    simp only [Res.bind_ok, List.range_succ, List.map_append, List.map_cons, List.map_nil, List.append_assoc]

/-- The first `k` bytes of a byte-by-byte write, reached without a walk, are stored and change nothing else; the others
follow. -/
theorem writeByteByByte_reachable {s : State} {l : Word} {p : Nat → Word} {n k : Nat} (v : Nat)
    (hcache : Tcache.wf s.tcache = true) (hk : k ≤ n)
    (h : ∀ i, i < k → storeByteAt s (l + BitVec.ofNat 32 i) (p i)) :
    writeByteByByte (leBytes n v) l s =
      writeByteByByte (leBytes (n - k) (v / 256 ^ k)) (l + BitVec.ofNat 32 k) (s.setMem (storeEach s.pmem p k v)) := by
  induction k with
  | zero =>
    rw [BitVec.add_zero, Nat.sub_zero, Nat.pow_zero, Nat.div_one]
    rfl
  | succ k ih =>
    have hnext : n - k = n - (k + 1) + 1 := by omega
    have hstore := storeByte_of_storeByteAt (s := s.setMem (storeEach s.pmem p k v)) (BitVec.ofNat 8 (v / 256 ^ k)) hcache
      (h k (by omega))
    rw [ih (by omega) fun i hi => h i (by omega), hnext, leBytes, writeByteByByte_cons, hstore,
      Res.bind_ok, ofNat_succ_add, storeEach_succ, Nat.div_div_eq_div_mul, ← Nat.pow_succ]
    rfl

/-- The bytes of a non-straddling access, each reached without a walk: the first one's translation is the access's, all lie
in the backing store, at consecutive addresses. -/
theorem reachable_of_fits {s : State} {l : Word} {p : Nat → Word} {n : Nat} (hs : s.Inv) (hn : 1 ≤ n)
    (hfit : l.toNat % 4096 + n ≤ 4096) (h : ∀ i, i < n → storeByteAt s (l + BitVec.ofNat 32 i) (p i)) :
    physOf s l = some (p 0) ∧ inVram s.cfg (p 0) = false ∧ (p 0).toNat + n ≤ s.cfg.physSize ∧
      ∀ i, i < n → (p i).toNat = (p 0).toNat + i := by
  obtain ⟨hp, hv, -⟩ := h 0 hn
  rw [BitVec.add_zero] at hp
  have hconsecutive : ∀ i, i < n → (p i).toNat = (p 0).toNat + i := fun i hi =>
    physOf_samePage hs (by omega) hp (h i hi).1
  obtain ⟨-, -, hlast⟩ := h (n - 1) (by omega)
  rw [hconsecutive (n - 1) (by omega)] at hlast
  exact ⟨hp, (inVram_eq_false_iff _ _).mpr hv, by omega, hconsecutive⟩

/-- `MemRead` of bytes reached without a walk answers them and changes nothing, straddling or not. -/
theorem memRead_of_reachable {s : State} {l : Word} {p : Nat → Word} {n : Nat} (kind : AccessKind) (hs : s.Inv)
    (hn : 1 ≤ n) (h : ∀ i, i < n → storeByteAt s (l + BitVec.ofNat 32 i) (p i)) :
    memRead l n kind s = .ok ((List.range n).map fun i => Memory.read s.pmem (p i).toNat) s := by
  by_cases hfit : l.toNat % 4096 + n ≤ 4096
  · obtain ⟨hp, hv, hsize, hconsecutive⟩ := reachable_of_fits hs hn hfit h
    rw [memRead_of_fits hfit, translate_of_physOf hs.tcache_wf hp, Res.bind_ok, loadBytes_store hv hsize,
      Memory.readBytes_eq_map _ _ hconsecutive]
  · rw [memRead_of_straddles (by omega), readByteByByte_reachable kind hs.tcache_wf le_rfl h, Nat.sub_self,
      readByteByByte, Res.bind_ok, List.append_nil]

/-- `MemWrite` of bytes reached without a walk stores them and changes nothing else, straddling or not. -/
theorem memWrite_of_reachable {s : State} {l : Word} {p : Nat → Word} {n : Nat} (v : Nat) (hs : s.Inv)
    (hn : 1 ≤ n) (h : ∀ i, i < n → storeByteAt s (l + BitVec.ofNat 32 i) (p i)) :
    memWrite l (leBytes n v) s = .ok () (s.setMem (storeEach s.pmem p n v)) := by
  by_cases hfit : l.toNat % 4096 + n ≤ 4096
  · obtain ⟨hp, hv, hsize, hconsecutive⟩ := reachable_of_fits hs hn hfit h
    rw [memWrite_of_fits (by rwa [leBytes_length]), translate_of_physOf hs.tcache_wf hp, Res.bind_ok,
      storeBytes_store hv (by rwa [leBytes_length]), Memory.writeBytes_eq_storeEach _ _ _ hconsecutive]
  · rw [memWrite_of_straddles (by rw [leBytes_length]; omega), writeByteByByte_reachable v hs.tcache_wf le_rfl h,
      Nat.sub_self, leBytes, writeByteByByte]

/-- Settles O29: the bytes are those `memRead_of_reachable` answers. -/
theorem memReadOfReachableBytes : Obligations.MemReadOfReachableBytes := by
  intro s p hs hn h
  show execMemRead s = _
  rw [execMemRead, memRead_of_reachable s.args.kind hs hn h]
  rfl

/-- Settles O30: the bytes are stored as in `memWrite_of_reachable`. -/
theorem memWriteOfReachableBytes : Obligations.MemWriteOfReachableBytes := by
  intro s p hs hn h
  show execMemWrite s = _
  rw [execMemWrite, memWrite_of_reachable s.args.value hs hn h]
  rfl

/-- Settles O35: the window is a read of sixteen such bytes. -/
theorem fetchWindowOfReachableBytes : Obligations.FetchWindowOfReachableBytes := by
  intro s p hs h
  show execFetchWindow s = _
  rw [execFetchWindow, fetchWindow, memRead_of_reachable .instructionFetch hs (by decide) h]
  rfl

/-- Settles O32: the bytes before byte `k` are stored; its translation ends the write, counted as a walk. -/
theorem straddlingStoreKeepsEarlierBytes : Obligations.StraddlingStoreKeepsEarlierBytes := by
  intro s u v p k x kind hs hk hstraddles h hu hfault
  obtain rfl : u = s.setMem (storeEach s.pmem p k s.args.value) := hu
  obtain ⟨rfl, rfl, rfl, -⟩ := translate_pageFault hfault
  have hrest : s.args.count - k = s.args.count - (k + 1) + 1 := by omega
  show execMemWrite s = _
  rw [execMemWrite, memWrite_of_straddles (by rwa [leBytes_length]),
    writeByteByByte_reachable s.args.value hs.tcache_wf hk.le h, hrest, leBytes, writeByteByByte, hfault]
  rfl

end Sys2Proof.Machine

/-! PROOFS. What a `MemWrite` leaves as it was: every byte of the backing store outside its targets (45_port_ops.md R257); and
the cached translations, which every instruction keeps but the three that clear them (20_memory.md R81). -/

namespace Sys2Proof.Machine

open Sys2Proof.Claims

/-- The step an operation makes meets what both its ends meet, if putting a result out keeps it. -/
theorem Res.Ends.toOutcome {α : Type} {P Q : State → Prop} {r : Res α} {k : α → State → State} {t : State}
    (hr : r.Ends P P) (h : r.toOutcome k = .next t) (hk : ∀ a s, P s → Q (k a s))
    (hout : ∀ s o, P s → Q (s.setOut o)) : Q t := by
  rcases Res.toOutcome_eq_next h with ⟨a, u, rfl, rfl⟩ | ⟨x, kind, u, rfl, rfl⟩
  · exact hk a u hr
  · exact hout u _ hr

/-! ### The bytes a write leaves -/

/-- From `s` to `t` no byte of the backing store changes but those at `targets`, and beside it only cache, walk count, video
calls and output may differ. -/
structure StoresOnly (targets : List Nat) (s t : State) : Prop where
  read : ∀ a, a ∉ targets → Memory.read t.pmem a = Memory.read s.pmem a
  rest : ∃ m tc wc vc o, t = { s with pmem := m, tcache := tc, walkCount := wc, videoCalls := vc, out := o }

theorem StoresOnly.refl (targets : List Nat) (s : State) : StoresOnly targets s s :=
  ⟨fun _ _ => rfl, _, _, _, _, _, rfl⟩

theorem StoresOnly.trans {ps qs : List Nat} {s t u : State} (h1 : StoresOnly ps s t) (h2 : StoresOnly qs t u) :
    StoresOnly (ps ++ qs) s u := by
  refine ⟨fun a ha => ?_, ?_⟩
  · rw [List.mem_append, not_or] at ha
    exact (h2.read a ha.2).trans (h1.read a ha.1)
  · obtain ⟨_, _, _, _, _, rfl⟩ := h1.rest
    obtain ⟨m, tc, wc, vc, o, rfl⟩ := h2.rest
    exact ⟨m, tc, wc, vc, o, rfl⟩

theorem StoresOnly.setOut {ps : List Nat} {s t : State} (h : StoresOnly ps s t) (o : Output) :
    StoresOnly ps s (t.setOut o) := by
  obtain ⟨m, tc, wc, vc, _, rfl⟩ := h.rest
  exact ⟨h.read, m, tc, wc, vc, o, rfl⟩

theorem translate_storesOnly {l p : Word} {kind : AccessKind} {s t : State} (h : translate l kind s = .ok p t) :
    StoresOnly [] s t := by
  obtain ⟨tc, wc, rfl⟩ := translate_frame h
  exact ⟨fun _ _ => rfl, s.pmem, tc, wc, s.videoCalls, s.out, rfl⟩

theorem translate_pageFault_storesOnly {l x : Word} {kind k : AccessKind} {s t : State} (targets : List Nat)
    (h : translate l kind s = .pageFault x k t) : StoresOnly targets s t := by
  obtain ⟨-, -, rfl, -⟩ := translate_pageFault h
  exact ⟨fun _ _ => rfl, s.pmem, s.tcache, s.walkCount + 1, s.videoCalls, s.out, rfl⟩

/-- A store in the video window has no target; any other has as many as bytes. -/
theorem storeBytes_storesOnly {p : Word} {bs : List Byte} {s t : State} {u : Unit} (h : storeBytes p bs s = .ok u t) :
    StoresOnly (if inVram s.cfg p then [] else (List.range bs.length).map (p.toNat + ·)) s t := by
  rcases storeBytes_ok h with ⟨_, rfl⟩ | ⟨hv, -, rfl⟩
  · exact ⟨fun _ _ => rfl, s.pmem, s.tcache, s.walkCount, s.videoCalls ++ [.write p bs], s.out, rfl⟩
  · refine ⟨fun a ha => Memory.read_writeBytes_other _ _ _ _ ?_, _, s.tcache, s.walkCount, s.videoCalls, s.out, rfl⟩
    rw [hv, if_neg Bool.false_ne_true, List.mem_map] at ha
    by_contra hin
    exact ha ⟨a - p.toNat, List.mem_range.mpr (by omega), by omega⟩

theorem writeByteByByte_storesOnly (bs : List Byte) (l : Word) (s : State) :
    (writeByteByByte bs l s).Ends (StoresOnly (straddlingTargets bs l s) s) (StoresOnly (straddlingTargets bs l s) s) := by
  induction bs generalizing l s with
  | nil => exact .refl _ _
  | cons b bs ih =>
    rw [writeByteByByte, straddlingTargets]
    cases ht : translate l .write s with
    | ok p u =>
      cases hst : storeBytes p [b] u with
      | ok _ v =>
        have hbefore : StoresOnly (if inVram u.cfg p then [] else [p.toNat]) s v :=
          (translate_storesOnly ht).trans (storeBytes_storesOnly hst)
        have hrest := ih (l + 1) v
        simp only [Res.bind_ok, hst]
        exact .intro (fun _ _ h => hbefore.trans (hrest.of_eq_ok h)) fun _ _ _ h => by
          rw [h] at hrest
          exact hbefore.trans hrest
      | pageFault => exact absurd hst storeBytes_not_pageFault
      | fault | refused => simp only [Res.bind_ok, hst]; trivial
    | pageFault x k t => exact translate_pageFault_storesOnly _ ht
    | fault | refused => trivial

/-- A `MemWrite`, completed or faulting half-way, stores to its targets alone. -/
theorem memWrite_storesOnly (l : Word) (bs : List Byte) (s : State) :
    (memWrite l bs s).Ends (StoresOnly (storeTargets l bs s) s) (StoresOnly (storeTargets l bs s) s) := by
  unfold memWrite storeTargets
  split_ifs with hstraddles
  · exact writeByteByByte_storesOnly bs l s
  · cases ht : translate l .write s with
    | ok p u =>
      exact .intro (fun _ _ h => (translate_storesOnly ht).trans (storeBytes_storesOnly h)) fun _ _ _ h =>
        absurd h storeBytes_not_pageFault
    | pageFault x k t => exact translate_pageFault_storesOnly _ ht
    | fault | refused => trivial

/-- Settles O31: what `memWrite_storesOnly` says of both ends, with the output put out. -/
theorem memWriteFrame : Obligations.MemWriteFrame := by
  intro s t h
  have hstores : StoresOnly (storeTargets s.args.linear (leBytes s.args.count s.args.value) s) s t :=
    (memWrite_storesOnly _ _ s).toOutcome h (fun _ _ hu => hu.setOut _) fun _ o hu => hu.setOut o
  refine ⟨hstores.read, ?_⟩
  obtain ⟨_, _, _, _, _, rfl⟩ := hstores.rest
  rfl

/-! ### Cached translations -/

/-- The cache of `t` has base `base` for page number `key` (R229). -/
def Caches (key : Nat) (base : Word) (t : State) : Prop := Tcache.find? t.tcache key = some base

section

variable {key : Nat} {base : Word} {s : State} (hs : Caches key base s)

include hs

/-- A walk inserts an entry only where its page had none. -/
theorem translate_caches (l : Word) (kind : AccessKind) :
    (translate l kind s).Ends (Caches key base) (Caches key base) := by
  refine .intro (fun p t h => ?_) fun x k t h => ?_
  · rcases translate_ok h with ⟨-, -, rfl⟩ | ⟨-, _, -, -, rfl⟩ | ⟨-, hnone, hwalk⟩
    · exact hs
    · exact hs
    · obtain ⟨_, pte, -, -, -, -, -, rfl⟩ := walk_ok hwalk
      have hother : key ≠ pageNumber l := by
        rintro rfl
        exact Option.some_ne_none base (hs.symm.trans hnone)
      exact (Tcache.find?_insert_other _ _ hother).trans hs
  · obtain ⟨-, -, rfl, -⟩ := translate_pageFault h
    exact hs

theorem loadBytes_caches (p : Word) (n : Nat) : (loadBytes p n s).Ends (Caches key base) (Caches key base) := by
  refine .intro (fun bs t h => ?_) fun x k t h => absurd h loadBytes_not_pageFault
  obtain ⟨-, -, htc⟩ := loadBytes_ok h
  rwa [Caches, htc]

theorem storeBytes_caches (p : Word) (bs : List Byte) : (storeBytes p bs s).Ends (Caches key base) (Caches key base) := by
  refine .intro (fun _ t h => ?_) fun x k t h => absurd h storeBytes_not_pageFault
  rcases storeBytes_ok h with ⟨-, rfl⟩ | ⟨-, -, rfl⟩
  · exact hs
  · exact hs

theorem readByteByByte_caches (kind : AccessKind) (n : Nat) (l : Word) :
    (readByteByByte kind n l s).Ends (Caches key base) (Caches key base) := by
  induction n generalizing l s with
  | zero => exact hs
  | succ n ih =>
    exact (translate_caches hs l kind).bind fun p _ hs => (loadBytes_caches hs p 1).bind fun _ _ hs =>
      (ih hs (l + 1)).bind fun _ _ hs => hs

theorem writeByteByByte_caches (bs : List Byte) (l : Word) :
    (writeByteByByte bs l s).Ends (Caches key base) (Caches key base) := by
  induction bs generalizing l s with
  | nil => exact hs
  | cons b bs ih =>
    exact (translate_caches hs l .write).bind fun p _ hs => (storeBytes_caches hs p [b]).bind fun _ _ hs => ih hs (l + 1)

theorem memRead_caches (l : Word) (n : Nat) (kind : AccessKind) :
    (memRead l n kind s).Ends (Caches key base) (Caches key base) := by
  unfold memRead
  split_ifs
  · exact readByteByByte_caches hs kind n l
  · exact (translate_caches hs l kind).bind fun p _ hs => loadBytes_caches hs p n

theorem memWrite_caches (l : Word) (bs : List Byte) : (memWrite l bs s).Ends (Caches key base) (Caches key base) := by
  unfold memWrite
  split_ifs
  · exact writeByteByByte_caches hs bs l
  · exact (translate_caches hs l .write).bind fun p _ hs => storeBytes_caches hs p bs

theorem fetchWindow_caches (l : Word) : (fetchWindow l s).Ends (Caches key base) (Caches key base) :=
  (memRead_caches hs l windowLen .instructionFetch).bind fun _ _ hs => hs

/-- An instruction keeps a cached entry, if it is none of the three that clear the cache. -/
theorem exec_caches {i : Instr} {t : State} (hbase : i ≠ .writePdBase) (hflush : i ≠ .flushCache) (hreset : i ≠ .reset)
    (h : exec i s = .next t) : Caches key base t := by
  cases exec_mayLeave h with
  | consumed | prefixed | gated => exact hs
  | translated => exact (translate_caches hs _ _).toOutcome h (fun _ _ hu => hu) fun _ _ hu => hu
  | read => exact (memRead_caches hs _ _ _).toOutcome h (fun _ _ hu => hu) fun _ _ hu => hu
  | written => exact (memWrite_caches hs _ _).toOutcome h (fun _ _ hu => hu) fun _ _ hu => hu
  | fetched => exact (fetchWindow_caches hs _).toOutcome h (fun _ _ hu => hu) fun _ _ hu => hu
  | basePointed => exact absurd rfl hbase
  | flushed => exact absurd rfl hflush
  | reset => exact absurd rfl hreset

end

/-- With paging on, a cached page is translated with its cached base (R229). -/
theorem translate_of_caches {l base : Word} {s : State} (kind : AccessKind) (hpaged : s.pdBase ≠ 0)
    (h : Caches (pageNumber l) base s) : translate l kind s = .ok (base ||| pageOffset l) s := by
  rw [Caches] at h
  rw [translate, if_neg hpaged, h]

/-- Settles O40: the entry stays by `exec_caches`, and paging stays on, so it goes on translating. -/
theorem cacheEntriesStayUntilCleared : Obligations.CacheEntriesStayUntilCleared := by
  intro i s t l base hbase hflush hreset h hpaged hs
  have ht : Caches (pageNumber l) base t := exec_caches hs hbase hflush hreset h
  obtain ⟨-, -, -, -, -, -, -, -, -, hpdBase, -⟩ := execFrame i s t h
  exact ⟨ht, fun kind => translate_of_caches kind (hpdBase hbase hreset ▸ hpaged) ht⟩

end Sys2Proof.Machine

/-! PROOFS. Why an instruction is refused (60_exceptions.md R278): the window ends (30_encoding.md R99), the backing store ends
(20_memory.md R67, 44_translate.md R232), or a directory base is no multiple of 4096 (45_port_ops.md R251). -/

namespace Sys2Proof.Machine

open Sys2Proof.Claims

/-! ### The one reason of an operation -/

/-- If the operation is refused, then for `why`. -/
def Res.RefusedOnlyFor {α : Type} (why : Refusal) : Res α → Prop
  | .ok _ _ => True
  | .pageFault _ _ _ => True
  | .fault _ => True
  | .refused r => r = why

theorem Res.RefusedOnlyFor.bind {α β : Type} {why : Refusal} {r : Res α} {f : α → State → Res β}
    (hr : r.RefusedOnlyFor why) (hf : ∀ a s, (f a s).RefusedOnlyFor why) : (r.bind f).RefusedOnlyFor why := by
  cases r with
  | ok a s => exact hf a s
  | pageFault | fault => trivial
  | refused => exact hr

theorem Res.RefusedOnlyFor.toOutcome {α : Type} {why r : Refusal} {x : Res α} {k : α → State → State}
    (hx : x.RefusedOnlyFor why) (h : x.toOutcome k = .refused r) : r = why := by
  cases x with
  | ok | pageFault | fault => cases h
  | refused => cases h; exact hx

theorem Res.toOutcome_of_refused {α : Type} {r : Refusal} {x : Res α} {k : α → State → State} (h : x = .refused r) :
    x.toOutcome k = .refused r := by
  rw [h, Res.toOutcome_refused]

theorem OnlyConsumes.refusedOnlyFor {α : Type} {f : State → Res α} (hf : OnlyConsumes f) (s : State) :
    (f s).RefusedOnlyFor .windowOverrun := by
  rcases hf s with ⟨_, _, h, -⟩ | h <;> rw [h]
  · trivial
  · rfl

theorem skipBytes_refusedOnlyFor (n : Nat) (s : State) : (skipBytes n s).RefusedOnlyFor .windowOverrun := by
  rcases skipBytes_onlyAdvances (n := n) s with h | h <;> rw [h]
  · trivial
  · rfl

theorem physRead_refusedOnlyFor (p : Word) (n : Nat) (s : State) : (physRead p n s).RefusedOnlyFor .physOutOfRange := by
  unfold physRead
  split_ifs
  · trivial
  · rfl

theorem loadBytes_refusedOnlyFor (p : Word) (n : Nat) (s : State) :
    (loadBytes p n s).RefusedOnlyFor .physOutOfRange := by
  unfold loadBytes
  split_ifs
  · trivial
  · exact physRead_refusedOnlyFor p n s

theorem storeBytes_refusedOnlyFor (p : Word) (bs : List Byte) (s : State) :
    (storeBytes p bs s).RefusedOnlyFor .physOutOfRange := by
  unfold storeBytes physWrite
  split_ifs
  · trivial
  · trivial
  · rfl

theorem readEntry_refusedOnlyFor (a : Word) (s : State) : (readEntry a s).RefusedOnlyFor .physOutOfRange :=
  (physRead_refusedOnlyFor a 4 s).bind fun _ _ => trivial

theorem walk_refusedOnlyFor (l : Word) (kind : AccessKind) (s : State) :
    (walk l kind s).RefusedOnlyFor .physOutOfRange := by
  refine (readEntry_refusedOnlyFor _ _).bind fun pde s => ?_
  split_ifs
  · refine (readEntry_refusedOnlyFor _ _).bind fun pte s => ?_
    split_ifs <;> trivial
  · trivial

theorem translate_refusedOnlyFor (l : Word) (kind : AccessKind) (s : State) :
    (translate l kind s).RefusedOnlyFor .physOutOfRange := by
  unfold translate
  split_ifs
  · trivial
  · split
    · trivial
    · exact walk_refusedOnlyFor l kind s

theorem readByteByByte_refusedOnlyFor (kind : AccessKind) (n : Nat) (l : Word) (s : State) :
    (readByteByByte kind n l s).RefusedOnlyFor .physOutOfRange := by
  induction n generalizing l s with
  | zero => trivial
  | succ n ih =>
    exact (translate_refusedOnlyFor l kind s).bind fun p s => (loadBytes_refusedOnlyFor p 1 s).bind fun _ s =>
      (ih (l + 1) s).bind fun _ _ => trivial

theorem writeByteByByte_refusedOnlyFor (bs : List Byte) (l : Word) (s : State) :
    (writeByteByByte bs l s).RefusedOnlyFor .physOutOfRange := by
  induction bs generalizing l s with
  | nil => trivial
  | cons b bs ih =>
    exact (translate_refusedOnlyFor l .write s).bind fun p s => (storeBytes_refusedOnlyFor p [b] s).bind fun _ s =>
      ih (l + 1) s

theorem memRead_refusedOnlyFor (l : Word) (n : Nat) (kind : AccessKind) (s : State) :
    (memRead l n kind s).RefusedOnlyFor .physOutOfRange := by
  unfold memRead
  split_ifs
  · exact readByteByByte_refusedOnlyFor kind n l s
  · exact (translate_refusedOnlyFor l kind s).bind fun p s => loadBytes_refusedOnlyFor p n s

theorem memWrite_refusedOnlyFor (l : Word) (bs : List Byte) (s : State) :
    (memWrite l bs s).RefusedOnlyFor .physOutOfRange := by
  unfold memWrite
  split_ifs
  · exact writeByteByByte_refusedOnlyFor bs l s
  · exact (translate_refusedOnlyFor l .write s).bind fun p s => storeBytes_refusedOnlyFor p bs s

theorem fetchWindow_refusedOnlyFor (l : Word) (s : State) : (fetchWindow l s).RefusedOnlyFor .physOutOfRange :=
  (memRead_refusedOnlyFor l windowLen .instructionFetch s).bind fun _ _ => trivial

theorem writePdBase_refusedOnlyFor (v : Word) (s : State) : (writePdBase v s).RefusedOnlyFor .pdBaseMisaligned := by
  unfold writePdBase
  split_ifs
  · trivial
  · rfl

/-- An instruction is refused only for the reason of the operation it runs. -/
theorem exec_refused {i : Instr} {s : State} {r : Refusal} (h : exec i s = .refused r) :
    r = .physOutOfRange ∨ r = .windowOverrun ∨ r = .pdBaseMisaligned := by
  rcases exec_cases i s with ⟨len, loc, reg, he⟩ | ⟨mod, reg, he⟩ | ⟨f, he, -⟩ |
    rfl | rfl | rfl | rfl | rfl | rfl | rfl | rfl | rfl
  · exact .inr (.inl ((skipBytes_refusedOnlyFor len s).toOutcome (he.symm.trans h)))
  · have hescape : ((skipBytes 1 s).bind fun _ t => resolveEscape mod reg t).RefusedOnlyFor .windowOverrun :=
      (skipBytes_refusedOnlyFor 1 s).bind fun _ t => (resolveEscape_onlyConsumes mod reg).refusedOnlyFor t
    exact .inr (.inl (hescape.toOutcome (he.symm.trans h)))
  · exact .inr (.inl ((skipBytes_refusedOnlyFor 1 s).toOutcome (he.symm.trans h)))
  · exact .inr (.inl ((resolve_onlyConsumes.refusedOnlyFor s).toOutcome h))
  · exact .inl ((translate_refusedOnlyFor _ _ s).toOutcome h)
  · exact .inl ((memRead_refusedOnlyFor _ _ _ s).toOutcome h)
  · exact .inl ((memWrite_refusedOnlyFor _ _ s).toOutcome h)
  · exact .inl ((fetchWindow_refusedOnlyFor _ s).toOutcome h)
  · exact .inr (.inr ((writePdBase_refusedOnlyFor _ s).toOutcome h))
  · cases h
  · cases h
  · cases h

/-! ### The window ends (R99) -/

theorem completePrefix_refused (f : State → State) {s : State} (h : ¬ s.cursor + 1 ≤ windowLen) :
    completePrefix f s = .refused .windowOverrun := by
  rw [completePrefix, skipBytes_refused h, Res.toOutcome_refused]

theorem escape_refused (mod : BitVec 2) (reg : RegIdx) {s : State} (h : ¬ s.cursor + 1 ≤ windowLen) :
    answerLocation ((skipBytes 1 s).bind fun _ t => resolveEscape mod reg t) = .refused .windowOverrun := by
  rw [skipBytes_refused h, Res.bind_refused, answerLocation, Res.toOutcome_refused]

/-- An instruction of the stream longer than what is left of the window is refused: its own length is what it consumes first. -/
theorem exec_overrun {i : Instr} {fmt : Format} {bytes : List Byte} {s : State} (henc : encode i = .stream fmt bytes)
    (h : windowLen < s.cursor + bytes.length) : exec i s = .refused .windowOverrun := by
  have hlen : ¬ s.cursor + (encode i).length ≤ windowLen := by
    rw [henc]
    exact Nat.not_le.mpr h
  cases i
  case resolve | translate | memRead | memWrite | fetchWindow | writePdBase | flushCache | setA20 | reset => cases henc
  case prefixEs | prefixCs | prefixSs | prefixDs | prefixFs | prefixGs | prefixOpsize | prefixAddrsize =>
    exact completePrefix_refused _ hlen
  case a32SibM0 | a32SibM1 | a32SibM2 => exact escape_refused _ _ hlen
  all_goals exact completeForm_refused hlen

/-- Completed, an operation begun in `s` has consumed `n` bytes of the window. -/
def Res.Consumes {α : Type} (n : Nat) (s : State) (r : Res α) : Prop :=
  ∀ a t, r = .ok a t → s.cursor + n ≤ max s.cursor s.win.length ∧ t = s.setCursor (s.cursor + n)

theorem consumes_ok {α : Type} (a : α) (s : State) : (Res.ok a s).Consumes 0 s := by
  rintro _ _ ⟨⟩
  exact ⟨Nat.le_max_left _ _, rfl⟩

theorem Res.Consumes.bind {α β : Type} {m n : Nat} {s : State} {r : Res α} {f : α → State → Res β} (hr : r.Consumes m s)
    (hf : ∀ a t, r = .ok a t → (f a t).Consumes n t) : (r.bind f).Consumes (m + n) s := by
  intro b u h
  obtain ⟨a, t, ha, hb⟩ := Res.bind_eq_ok h
  obtain ⟨hm, rfl⟩ := hr a t ha
  obtain ⟨hn, rfl⟩ := hf a _ ha b u hb
  simp only [State.setCursor_cursor, State.setCursor_win] at hn
  exact ⟨by omega, by simp only [State.setCursor, Nat.add_assoc]⟩

theorem fetch8_consumes (s : State) : (fetch8 s).Consumes 1 s := by
  intro b t h
  obtain ⟨hb, ht⟩ := fetch8_ok h
  exact ⟨le_max_of_le_right (List.getElem?_eq_some_iff.mp hb).1, ht⟩

theorem fetch16_consumes (s : State) : (fetch16 s).Consumes 2 s :=
  (fetch8_consumes s).bind (n := 1) fun _ t _ => (fetch8_consumes t).bind fun _ u _ => consumes_ok _ u

theorem fetch32_consumes (s : State) : (fetch32 s).Consumes 4 s :=
  (fetch16_consumes s).bind (n := 2) fun _ t _ => (fetch16_consumes t).bind fun _ u _ => consumes_ok _ u

theorem addDisp32_consumes (mod : BitVec 2) (sum : Word) (s : State) :
    (addDisp32 mod sum s).Consumes (if mod = 1 then 1 else if mod = 2 then 4 else 0) s := by
  unfold addDisp32
  split_ifs
  · exact (fetch8_consumes s).bind fun _ t _ => consumes_ok _ t
  · exact (fetch32_consumes s).bind fun _ t _ => consumes_ok _ t
  · exact consumes_ok _ s

/-- A SIB byte, and after it the displacement of a form without base (R180, R182). -/
theorem resolveSib_consumes {mod : BitVec 2} {s : State} {sib : Byte} (hsib : s.win[s.cursor]? = some sib) :
    (resolveSib mod s).Consumes (1 + if baseOf sib = 5 ∧ mod = 0 then 4 else 0) s := by
  refine (fetch8_consumes s).bind fun b t hb => ?_
  obtain rfl : b = sib := Option.some.inj ((fetch8_ok hb).1.symm.trans hsib)
  by_cases hbase : baseOf b = 5 ∧ mod = 0
  · rw [if_pos hbase, if_pos hbase]
    exact (fetch32_consumes t).bind fun _ u _ => consumes_ok _ u
  · rw [if_neg hbase, if_neg hbase]
    exact consumes_ok _ t

/-- After its own byte an escape consumes a SIB byte and the displacement of `mod` and base (R95, R173). -/
theorem resolveEscape_consumes {mod : BitVec 2} {reg : RegIdx} {s : State} {sib : Byte}
    (hmod : mod = 0 ∨ mod = 1 ∨ mod = 2) (hsib : s.win[s.cursor]? = some sib) :
    (resolveEscape mod reg s).Consumes (1 + sibDispLen mod (sib.extractLsb' 0 3)) s := by
  have hlen : (1 + if baseOf sib = 5 ∧ mod = 0 then 4 else 0) + ((if mod = 1 then 1 else if mod = 2 then 4 else 0) + 0) =
      1 + sibDispLen mod (sib.extractLsb' 0 3) := by
    rcases hmod with rfl | rfl | rfl <;> simp [sibDispLen, baseOf]
  rw [← hlen]
  exact (resolveSib_consumes hsib).bind fun term t _ => (addDisp32_consumes mod term.1 t).bind fun _ u _ => consumes_ok _ u

/-- A completed escape had its SIB byte in the window, and the displacement after it. -/
theorem resolveEscape_fits {mod : BitVec 2} {reg : RegIdx} {s t : State} {a : Location × RegIdx}
    (hmod : mod = 0 ∨ mod = 1 ∨ mod = 2) (h : resolveEscape mod reg s = .ok a t) :
    ∃ sib, s.win[s.cursor]? = some sib ∧ s.cursor + (1 + sibDispLen mod (sib.extractLsb' 0 3)) ≤ s.win.length := by
  obtain ⟨_, _, hterm, -⟩ := Res.bind_eq_ok h
  obtain ⟨sib, _, hbyte, -⟩ := Res.bind_eq_ok hterm
  obtain ⟨hsib, -⟩ := fetch8_ok hbyte
  obtain ⟨hfit, -⟩ := resolveEscape_consumes hmod hsib a t h
  exact ⟨sib, hsib, by omega⟩

/-- An escape whose SIB byte or displacement does not fit in the window is refused (R99, R173). -/
theorem escape_overrun {mod : BitVec 2} {reg : RegIdx} {s : State} (hmod : mod = 0 ∨ mod = 1 ∨ mod = 2)
    (hwin : s.win.length = windowLen)
    (h : windowLen < s.cursor + 2 ∨
      ∃ sib, s.win[s.cursor + 1]? = some sib ∧ windowLen < s.cursor + (2 + sibDispLen mod (sib.extractLsb' 0 3))) :
    answerLocation ((skipBytes 1 s).bind fun _ t => resolveEscape mod reg t) = .refused .windowOverrun := by
  by_cases hc : s.cursor + 1 ≤ windowLen
  · rw [skipBytes_eq hc, Res.bind_ok]
    rcases resolveEscape_onlyConsumes mod reg (s.setCursor (s.cursor + 1)) with ⟨a, t, hok, -⟩ | hrefused
    · obtain ⟨sib, hsib, hfit⟩ := resolveEscape_fits hmod hok
      simp only [State.setCursor_cursor, State.setCursor_win] at hsib hfit
      rcases h with h | ⟨sib', hsib', h⟩
      · omega
      · obtain rfl : sib = sib' := Option.some.inj (hsib.symm.trans hsib')
        omega
    · rw [hrefused, answerLocation, Res.toOutcome_refused]
  · exact escape_refused mod reg hc

/-! ### The backing store ends (R67, R232) -/

theorem readEntry_refused {a : Word} {s : State} (h : s.cfg.physSize < a.toNat + 4) :
    readEntry a s = .refused .physOutOfRange := by
  rw [readEntry, physRead, if_neg (Nat.not_le.mpr h), Res.bind_refused]

/-- An entry within PHYS_SIZE is read as a number, which `entryAt` gives. -/
theorem readEntry_eq {a : Word} {s : State} (h : a.toNat + 4 ≤ s.cfg.physSize) :
    readEntry a s = .ok (BitVec.ofNat 32 (entryAt s a.toNat)) s := by
  rw [readEntry, physRead, if_pos h, Res.bind_ok, entryAt]

theorem entryAt_lt (s : State) (a : Nat) : entryAt s a < 2 ^ 32 := by
  have h := leValue_lt (Memory.readBytes s.pmem a 4)
  rwa [Memory.readBytes_length] at h

/-- The present bit is bit 0 (R233). -/
theorem entryPresent_of_odd {e : Word} (h : e.toNat % 2 = 1) : entryPresent e = true := by
  rw [entryPresent, BitVec.getLsbD, Nat.testBit_zero, h]
  rfl

theorem dirIndex_toNat (l : Word) : (dirIndex l).toNat = l.toNat / 2 ^ 22 := by
  rw [dirIndex, BitVec.toNat_ushiftRight, Nat.shiftRight_eq_div_pow]

theorem tableIndex_toNat (l : Word) : (tableIndex l).toNat = l.toNat / 4096 % 1024 := by
  rw [tableIndex, BitVec.toNat_and, BitVec.toNat_ushiftRight, Nat.shiftRight_eq_div_pow]
  exact Nat.and_two_pow_sub_one_eq_mod _ 10

/-- An entry's base is the entry with bits 11:0 cleared (R234). -/
theorem entryBase_toNat (e : Word) : (entryBase e).toNat = e.toNat / 4096 * 4096 := by
  have haligned : (entryBase e).toNat % 4096 = 0 := (aligned_iff _).mp (entryBase_aligned e)
  have hhigh : (entryBase e).toNat / 2 ^ 12 = e.toNat / 2 ^ 12 % 2 ^ 20 := by
    rw [entryBase, BitVec.toNat_and, Nat.and_div_two_pow]
    exact Nat.and_two_pow_sub_one_eq_mod _ 20
  have := e.isLt
  omega

/-- Where the walk reads the directory entry, without a wrap (R230). -/
theorem pdeAddress_toNat {s : State} (l : Word) (hs : s.pdBase.toNat % 4096 = 0) :
    (s.pdBase + dirIndex l * 4).toNat = pdeAddress s l := by
  have hl := l.isLt
  have hbase := s.pdBase.isLt
  rw [BitVec.toNat_add, BitVec.toNat_mul, dirIndex_toNat, pdeAddress]
  show (s.pdBase.toNat + l.toNat / 2 ^ 22 * 4 % 2 ^ 32) % 2 ^ 32 = _
  omega

/-- Where the walk reads the table entry, without a wrap (R230, R234). -/
theorem pteAddress_toNat (e l : Word) : (entryBase e + tableIndex l * 4).toNat = pteAddress e.toNat l := by
  have he := e.isLt
  rw [BitVec.toNat_add, BitVec.toNat_mul, tableIndex_toNat, entryBase_toNat, pteAddress]
  show (e.toNat / 4096 * 4096 + l.toNat / 4096 % 1024 * 4 % 2 ^ 32) % 2 ^ 32 = _
  omega

/-- A walk that reads an entry beyond PHYS_SIZE is refused (R232). -/
theorem translate_walk_refused {s : State} {l : Word} {kind : AccessKind} (hpaged : s.pdBase ≠ 0)
    (haligned : s.pdBase.toNat % 4096 = 0) (hmiss : Tcache.find? s.tcache (pageNumber l) = none)
    (h : s.cfg.physSize < pdeAddress s l + 4 ∨
      (entryAt s (pdeAddress s l) % 2 = 1 ∧ s.cfg.physSize < pteAddress (entryAt s (pdeAddress s l)) l + 4)) :
    translate l kind s = .refused .physOutOfRange := by
  have hpde := pdeAddress_toNat l haligned
  rw [translate, if_neg hpaged, hmiss]
  show walk l kind s = _
  by_cases hdir : s.cfg.physSize < pdeAddress s l + 4
  · rw [walk, readEntry_refused (hpde.symm ▸ hdir), Res.bind_refused]
  · obtain ⟨hodd, htable⟩ := h.resolve_left hdir
    have hentry : (BitVec.ofNat 32 (entryAt s (pdeAddress s l))).toNat = entryAt s (pdeAddress s l) :=
      Nat.mod_eq_of_lt (entryAt_lt s _)
    have hpde' : entryAt s.countWalk (s.pdBase + dirIndex l * 4).toNat = entryAt s (pdeAddress s l) :=
      congrArg (entryAt s) hpde
    rw [walk, readEntry_eq (s := s.countWalk) (hpde.symm ▸ Nat.not_lt.mp hdir), Res.bind_ok, hpde',
      if_pos (entryPresent_of_odd (hentry.symm ▸ hodd)),
      readEntry_refused (s := s.countWalk) (by rw [pteAddress_toNat, hentry]; exact htable), Res.bind_refused]

/-- A read whose translation or access reaches beyond PHYS_SIZE is refused. -/
theorem load_outOfRange {l : Word} {n : Nat} {kind : AccessKind} {s : State} (h : outOfRange l n kind s) :
    ((translate l kind s).bind fun p t => loadBytes p n t) = .refused .physOutOfRange := by
  rcases h with ⟨r, ht⟩ | ⟨p, u, ht, hv, hsize⟩
  · have hr := translate_refusedOnlyFor l kind s
    rw [ht] at hr
    rw [ht, Res.bind_refused, show r = .physOutOfRange from hr]
  · obtain ⟨hcfg, -⟩ := translate_keeps_store ht
    rw [ht, Res.bind_ok, loadBytes, hcfg, hv, if_neg Bool.false_ne_true, physRead, hcfg, if_neg (Nat.not_le.mpr hsize)]

/-- A write whose translation or access reaches beyond PHYS_SIZE is refused. -/
theorem store_outOfRange {l : Word} {bs : List Byte} {s : State} (h : outOfRange l bs.length .write s) :
    ((translate l .write s).bind fun p t => storeBytes p bs t) = .refused .physOutOfRange := by
  rcases h with ⟨r, ht⟩ | ⟨p, u, ht, hv, hsize⟩
  · have hr := translate_refusedOnlyFor l .write s
    rw [ht] at hr
    rw [ht, Res.bind_refused, show r = .physOutOfRange from hr]
  · obtain ⟨hcfg, -⟩ := translate_keeps_store ht
    rw [ht, Res.bind_ok, storeBytes, hcfg, hv, if_neg Bool.false_ne_true, physWrite, hcfg, if_neg (Nat.not_le.mpr hsize)]

/-- A straddling read whose byte `k` is out of range, the bytes before it being reached without a walk, is refused. -/
theorem memRead_outOfRange_at {s : State} {l : Word} {p : Nat → Word} {n k : Nat} {kind : AccessKind}
    (hcache : Tcache.wf s.tcache = true) (hk : k < n) (hstraddles : 4096 < l.toNat % 4096 + n)
    (hbefore : ∀ i, i < k → storeByteAt s (l + BitVec.ofNat 32 i) (p i))
    (h : outOfRange (l + BitVec.ofNat 32 k) 1 kind s) : memRead l n kind s = .refused .physOutOfRange := by
  have hrest : n - k = n - (k + 1) + 1 := by omega
  rw [memRead_of_straddles hstraddles, readByteByByte_reachable kind hcache hk.le hbefore, hrest, readByteByByte_succ,
    load_outOfRange h, Res.bind_refused, Res.bind_refused]

/-- A straddling write whose byte `k` is out of range once the bytes before it are stored is refused. -/
theorem memWrite_outOfRange_at {s : State} {l : Word} {p : Nat → Word} {n k v : Nat}
    (hcache : Tcache.wf s.tcache = true) (hk : k < n) (hstraddles : 4096 < l.toNat % 4096 + n)
    (hbefore : ∀ i, i < k → storeByteAt s (l + BitVec.ofNat 32 i) (p i))
    (h : outOfRange (l + BitVec.ofNat 32 k) 1 .write (s.setMem (storeEach s.pmem p k v))) :
    memWrite l (leBytes n v) s = .refused .physOutOfRange := by
  have hrest : n - k = n - (k + 1) + 1 := by omega
  rw [memWrite_of_straddles (by rwa [leBytes_length]), writeByteByByte_reachable v hcache hk.le hbefore, hrest, leBytes,
    writeByteByByte_cons, store_outOfRange h, Res.bind_refused]

theorem fetchWindow_refused {l : Word} {s : State} {r : Refusal}
    (h : memRead l windowLen .instructionFetch s = .refused r) : fetchWindow l s = .refused r := by
  rw [fetchWindow, h, Res.bind_refused]

/-- A directory base that is no multiple of 4096 is refused (R251). -/
theorem writePdBase_refused {v : Word} {s : State} (h : v.toNat % 4096 ≠ 0) :
    writePdBase v s = .refused .pdBaseMisaligned :=
  if_neg fun hzero => h ((aligned_iff v).mp hzero)

/-- Settles O20: the three reasons by `exec_refused`; the window's end by `exec_overrun` and `escape_overrun`; the store's end
in a walk, in an access on one page, and at byte `k` of a straddling one; the misaligned base. -/
theorem refusals : Obligations.Refusals := by
  refine ⟨fun i s r h => exec_refused h, fun i fmt bytes s henc h => exec_overrun henc h, ?_, ?_, ?_, ?_, ?_, ?_⟩
  · intro mod escape reg s hescape hwin h
    rcases hescape with ⟨rfl, rfl⟩ | ⟨rfl, rfl⟩ | ⟨rfl, rfl⟩
    · exact escape_overrun (.inl rfl) hwin h
    · exact escape_overrun (.inr (.inl rfl)) hwin h
    · exact escape_overrun (.inr (.inr rfl)) hwin h
  · rintro s pde hpaged haligned hmiss rfl h
    exact Res.toOutcome_of_refused (translate_walk_refused hpaged haligned hmiss h)
  · refine fun s hfit => ⟨fun h => ?_, fun h => ?_⟩
    · exact Res.toOutcome_of_refused ((memRead_of_fits hfit).trans (load_outOfRange h))
    · refine Res.toOutcome_of_refused ((memWrite_of_fits ?_).trans (store_outOfRange ?_)) <;> rwa [leBytes_length]
  · intro s hfit h
    exact Res.toOutcome_of_refused (fetchWindow_refused ((memRead_of_fits hfit).trans (load_outOfRange h)))
  · refine fun s p k hs hbefore => ⟨fun hk hstraddles => ⟨fun h => ?_, fun h => ?_⟩, fun hk hstraddles h => ?_⟩
    · exact Res.toOutcome_of_refused (memRead_outOfRange_at hs.tcache_wf hk hstraddles hbefore h)
    · exact Res.toOutcome_of_refused (memWrite_outOfRange_at hs.tcache_wf hk hstraddles hbefore h)
    · exact Res.toOutcome_of_refused (fetchWindow_refused (memRead_outOfRange_at hs.tcache_wf hk hstraddles hbefore h))
  · intro s hvalue hlow
    exact Res.toOutcome_of_refused (writePdBase_refused (by rwa [BitVec.toNat_ofNat, Nat.mod_eq_of_lt hvalue]))

end Sys2Proof.Machine

/-! PROOFS. The 16-bit addressing forms and the register forms (40_resolver16.md): how a ModR/M byte decodes, what each form
answers, and which registers an offset is made of. -/

namespace Sys2Proof.Machine

open Sys2Proof.Claims

/-! ### Which registers a 16-bit offset reads (R146, R147) -/

/-- A change of the general registers that leaves the low halves of BX, BP, SI and DI. -/
def KeepsAddressRegisters (g : Vector Word 8 → Vector Word 8) : Prop :=
  ∀ (v : Word) (s : State), (s.withRegs g v).bx = s.bx ∧ (s.withRegs g v).bp = s.bp ∧ (s.withRegs g v).si = s.si ∧
    (s.withRegs g v).di = s.di

theorem baseIndex16_withRegs {g : Vector Word 8 → Vector Word 8} (hg : KeepsAddressRegisters g) (v : Word) (rm : RegIdx)
    (s : State) : baseIndex16 rm (s.withRegs g v) = baseIndex16 rm s := by
  obtain ⟨hbx, hbp, hsi, hdi⟩ := hg v s
  simp only [baseIndex16, hbx, hbp, hsi, hdi]

/-- The 16-bit resolve sees no other part of the register file. -/
theorem resolve16_commutes_of_keeps {g : Vector Word 8 → Vector Word 8} (hg : KeepsAddressRegisters g) (v : Word) :
    Commutes (.withRegs g v) resolve16 := by
  refine (fetch8_commutes g v).bind fun m => .ite (fun _ => Iff.rfl) (fun _ => rfl)
    (.ite (fun _ => Iff.rfl) ((fetch16_commutes g v).bind fun _ _ => rfl) fun s => ?_)
  rw [baseIndex16_withRegs hg]
  exact ((addDisp16_commutes g v _ _).bind fun _ _ => rfl) s

theorem gpr16_toNat (s : State) (i : RegIdx) : (s.gpr16 i).toNat = r16 s i := readReg_two s i

/-- Putting `g` in place of one register file, that of `s`, is such a change where `g` agrees with `s` in the four low
halves. -/
theorem keepsAddressRegisters_update {s : State} {g : Vector Word 8} (hbx : r16 { s with gpr := g } 3 = r16 s 3)
    (hbp : r16 { s with gpr := g } 5 = r16 s 5) (hsi : r16 { s with gpr := g } 6 = r16 s 6)
    (hdi : r16 { s with gpr := g } 7 = r16 s 7) : KeepsAddressRegisters (Function.update id s.gpr g) := by
  have hkeep : ∀ (i : RegIdx) (v : Word) (t : State), r16 { s with gpr := g } i = r16 s i →
      (t.withRegs (Function.update id s.gpr g) v).gpr16 i = t.gpr16 i := by
    intro i v t hi
    apply BitVec.eq_of_toNat_eq
    rw [gpr16_toNat, gpr16_toNat]
    by_cases ht : t.gpr = s.gpr
    · simpa only [r16, r32, State.withRegs, ht, Function.update_self] using hi
    · simp only [r16, r32, State.withRegs, Function.update_of_ne ht, id]
  exact fun v t => ⟨hkeep 3 v t hbx, hkeep 5 v t hbp, hkeep 6 v t hsi, hkeep 7 v t hdi⟩

theorem withRegs_update (s t : State) {g : Vector Word 8} (hgpr : t.gpr = s.gpr) (hflags : t.flags = s.flags) :
    t.withRegs (Function.update id s.gpr g) s.flags = { t with gpr := g } := by
  rw [State.withRegs, hgpr, Function.update_self, ← hflags]

theorem zext16_toNat (v : BitVec 16) : (zext16 v).toNat = v.toNat := by
  have := v.isLt
  rw [zext16, BitVec.toNat_setWidth]
  omega

/-- The offset of a memory location the 16-bit resolve answers is a zero-extended sum (R146). -/
theorem resolve16_offset {s t : State} {seg : Seg} {offset linear : Word} {reg : RegIdx}
    (h : resolve16 s = .ok (.memory seg offset linear, reg) t) : ∃ v, offset = zext16 v := by
  obtain ⟨m, u, -, h⟩ := Res.bind_eq_ok h
  dsimp only at h
  split_ifs at h
  · cases h
  · obtain ⟨d, u', -, h⟩ := Res.bind_eq_ok h
    cases h
    exact ⟨d, rfl⟩
  · obtain ⟨sum, u', -, h⟩ := Res.bind_eq_ok h
    cases h
    exact ⟨sum, rfl⟩

/-- A step that answers a location answers the one found by consuming; only the cursor has moved. -/
theorem OnlyConsumes.answerLocation_next {f : State → Res (Location × RegIdx)} (hf : OnlyConsumes f) {s t : State}
    (h : answerLocation (f s) = .next t) : ∃ loc reg n, f s = .ok (loc, reg) (s.setCursor (s.cursor + n)) ∧
      t = (s.setCursor (s.cursor + n)).setOut (.location loc reg) := by
  rcases hf s with ⟨⟨loc, reg⟩, u, hu, n, rfl, -⟩ | hu <;> rw [answerLocation, hu] at h <;> cases h
  exact ⟨loc, reg, n, hu, rfl⟩

theorem Commutes.answerLocation_next {g : Vector Word 8 → Vector Word 8} {v : Word} {f : State → Res (Location × RegIdx)}
    {s t : State} (hf : Commutes (.withRegs g v) f) (h : answerLocation (f s) = .next t) :
    answerLocation (f (s.withRegs g v)) = .next (t.withRegs g v) :=
  hf.toOutcome (fun _ _ => rfl) h

theorem exec_resolve_of_addressSize16 {s : State} (h : s.addressSize32 = false) :
    exec .resolve s = answerLocation (resolve16 s) := by
  change answerLocation (resolve s) = _
  rw [resolve, if_neg (by rw [h]; exact Bool.false_ne_true)]

/-- Settles O18: the offset is a zero-extended 16-bit sum, and the resolve commutes with putting `g` in place of the register
file. -/
theorem offset16ReadsLowHalves : Obligations.Offset16ReadsLowHalves := by
  refine ⟨fun s t seg offset linear reg h16 h hout => ?_, fun s t g h16 hbx hbp hsi hdi h => ?_⟩
  · rw [exec_resolve_of_addressSize16 h16] at h
    obtain ⟨loc, reg', n, hres, rfl⟩ := resolve16_onlyConsumes.answerLocation_next h
    cases hout
    obtain ⟨v, rfl⟩ := resolve16_offset hres
    rw [zext16_toNat]
    exact v.isLt
  · rw [exec_resolve_of_addressSize16 h16] at h
    rw [exec_resolve_of_addressSize16 (s := { s with gpr := g }) h16]
    have hkeeps := keepsAddressRegisters_update hbx hbp hsi hdi
    have hswapped := (resolve16_commutes_of_keeps hkeeps s.flags).answerLocation_next h
    obtain ⟨hgpr, hflags⟩ : t.gpr = s.gpr ∧ t.flags = s.flags := by
      obtain ⟨_, _, _, -, rfl⟩ := resolve16_onlyConsumes.answerLocation_next h
      exact ⟨rfl, rfl⟩
    rwa [withRegs_update s s rfl rfl, withRegs_update s t hgpr hflags] at hswapped

/-! ### Decoding a ModR/M byte (R91, R94) -/

/-- Under mask 0xC7 a ModR/M byte is its mod and rm. -/
theorem mod_rm_of_mask {m : Byte} {mod : BitVec 2} {rm : RegIdx} (h : m &&& 0xC7#8 = modrmByte mod 0 rm) :
    modOf m = mod ∧ rmOf m = rm := by
  obtain ⟨hmod, -, hrm⟩ := modrmByte_fields mod 0 rm
  rw [← h] at hmod hrm
  refine ⟨hmod ▸ ?_, hrm ▸ ?_⟩
  · simp only [modOf, BitVec.extractLsb'_and]
    exact BitVec.and_allOnes.symm
  · simp only [rmOf, BitVec.extractLsb'_and]
    exact BitVec.and_allOnes.symm

theorem decodeSpecifier_false (bs : List Byte) : decodeSpecifier false bs = decodeM16 bs := by
  rcases bs with _ | ⟨m, _ | ⟨b, rest⟩⟩ <;> rfl

theorem withDisp8_append {f : BitVec 8 → Instr} {disp : List Byte} (rest : List Byte) (h : disp.length = 1) :
    withDisp8 f (disp ++ rest) = .ok (f (BitVec.ofNat 8 (leValue disp))) rest := by
  obtain ⟨a, rfl⟩ := List.length_eq_one_iff.mp h
  rw [ofNat_leValue_one]
  rfl

theorem withDisp16_append {f : BitVec 16 → Instr} {disp : List Byte} (rest : List Byte) (h : disp.length = 2) :
    withDisp16 f (disp ++ rest) = .ok (f (BitVec.ofNat 16 (leValue disp))) rest := by
  obtain ⟨a, b, rfl⟩ := List.length_eq_two.mp h
  rw [ofNat_leValue_two]
  rfl

theorem decodeM16_mod0 {m : Byte} {f : RegIdx → Instr} (rest : List Byte) (hmod : modOf m = 0)
    (hf : form16M0 (rmOf m) = some f) : decodeM16 (m :: rest) = .ok (f (regOf m)) rest := by
  simp only [decodeM16, hmod, hf]
  rfl

theorem decodeM16_mod0_disp {m : Byte} (bs : List Byte) (hmod : modOf m = 0) (hrm : rmOf m = 6) :
    decodeM16 (m :: bs) = withDisp16 (.a16M0Rm6 (regOf m)) bs := by
  rw [decodeM16, hmod, hrm]
  rfl

theorem decodeM16_mod1 {m : Byte} (bs : List Byte) (hmod : modOf m = 1) :
    decodeM16 (m :: bs) = withDisp8 (form16M1 (rmOf m) (regOf m)) bs := by
  rw [decodeM16, hmod]
  rfl

theorem decodeM16_mod2 {m : Byte} (bs : List Byte) (hmod : modOf m = 2) :
    decodeM16 (m :: bs) = withDisp16 (form16M2 (rmOf m) (regOf m)) bs := by
  rw [decodeM16, hmod]
  rfl

theorem decodeM16_mod3 {m : Byte} (rest : List Byte) (hmod : modOf m = 3) :
    decodeM16 (m :: rest) = .ok (.a16Reg (regOf m) (rmOf m)) rest := by
  rw [decodeM16, hmod]
  rfl

/-! ### What a 16-bit form answers -/

/-- Eight cases of a three-bit field. -/
theorem regIdx_induct {P : RegIdx → Prop} (h0 : P 0) (h1 : P 1) (h2 : P 2) (h3 : P 3) (h4 : P 4) (h5 : P 5) (h6 : P 6)
    (h7 : P 7) (i : RegIdx) : P i := by
  obtain ⟨n, hn⟩ := i
  interval_cases n <;> assumption

theorem exec_form16M0 {rm : RegIdx} : ∀ {f : RegIdx → Instr}, form16M0 rm = some f → ∀ reg s,
    exec (f reg) s = completeForm 1 (s.memLocation (baseIndex16 rm s).2 (zext16 (baseIndex16 rm s).1)) reg s := by
  induction rm using regIdx_induct <;> rintro f ⟨⟩ reg s <;> rfl

theorem exec_form16M1 (rm reg : RegIdx) (d : BitVec 8) (s : State) : exec (form16M1 rm reg d) s =
    completeForm 2 (s.memLocation (baseIndex16 rm s).2 (zext16 ((baseIndex16 rm s).1 + sext8to16 d))) reg s := by
  induction rm using regIdx_induct <;> rfl

theorem exec_form16M2 (rm reg : RegIdx) (d : BitVec 16) (s : State) : exec (form16M2 rm reg d) s =
    completeForm 3 (s.memLocation (baseIndex16 rm s).2 (zext16 ((baseIndex16 rm s).1 + d))) reg s := by
  induction rm using regIdx_induct <;> rfl

/-- The registers of a base/index combination, added up as numbers (R120). -/
def sum16 (rm : RegIdx) (s : State) : Nat :=
  pick8 rm (r16 s 3 + r16 s 6) (r16 s 3 + r16 s 7) (r16 s 5 + r16 s 6) (r16 s 5 + r16 s 7) (r16 s 6) (r16 s 7) (r16 s 5)
    (r16 s 3)

/-- The default segment of a base/index combination: SS with BP (R120). -/
def seg16 (rm : RegIdx) : Seg := pick8 rm .ds .ds .ss .ss .ds .ds .ss .ds

theorem baseIndex16_seg (rm : RegIdx) (s : State) : (baseIndex16 rm s).2 = seg16 rm := by
  induction rm using regIdx_induct <;> rfl

theorem gpr16_add_toNat (s : State) (i j : RegIdx) : (s.gpr16 i + s.gpr16 j).toNat = (r16 s i + r16 s j) % 2 ^ 16 := by
  rw [BitVec.toNat_add, gpr16_toNat, gpr16_toNat]

theorem gpr16_toNat_mod (s : State) (i : RegIdx) : (s.gpr16 i).toNat = r16 s i % 2 ^ 16 := by
  rw [gpr16_toNat, r16, Nat.mod_mod]

theorem baseIndex16_toNat (rm : RegIdx) (s : State) : (baseIndex16 rm s).1.toNat = sum16 rm s % 2 ^ 16 := by
  induction rm using regIdx_induct
  case h0 | h1 | h2 | h3 => exact gpr16_add_toNat s _ _
  case h4 | h5 | h6 | h7 => exact gpr16_toNat_mod s _

/-- A displacement joins the sum modulo 2^16 (R146). -/
theorem baseIndex16_add_toNat (rm : RegIdx) (s : State) (d : BitVec 16) :
    ((baseIndex16 rm s).1 + d).toNat = (sum16 rm s + d.toNat) % 2 ^ 16 := by
  rw [BitVec.toNat_add, baseIndex16_toNat, Nat.mod_add_mod]

/-- Sign extension of a displacement byte, in numbers (R97). -/
theorem signExtend_byte_toNat {w d : Nat} (hw : 8 ≤ w) (hd : d < 256) :
    ((BitVec.ofNat 8 d).signExtend w).toNat = sext w d := by
  have hpow : 2 ^ 8 ≤ 2 ^ w := Nat.pow_le_pow_right (by decide) hw
  have hbyte : (BitVec.ofNat 8 d).toNat = d := by rw [BitVec.toNat_ofNat, Nat.mod_eq_of_lt hd]
  rw [BitVec.toNat_signExtend, BitVec.toNat_setWidth, BitVec.msb_eq_decide, hbyte, Nat.mod_eq_of_lt (by omega), sext]
  simp only [decide_eq_true_eq]
  split_ifs <;> omega

theorem memLocation_eq_memoryAt (s : State) (dflt : Seg) (offset : Word) :
    s.memLocation dflt offset = memoryAt s dflt offset.toNat := by
  have hseg : s.effectiveSeg dflt = segOf s dflt := by
    unfold State.effectiveSeg segOf
    cases s.segOverride <;> rfl
  simp only [State.memLocation, State.linear, memoryAt, hseg, BitVec.ofNat_add, BitVec.ofNat_toNat, BitVec.setWidth_eq]

theorem completeForm_resolved {len : Nat} {loc : Location} {reg : RegIdx} {s : State} (h : s.cursor + len ≤ windowLen) :
    completeForm len loc reg s = .next (resolved s len loc reg) := completeForm_eq h

/-- A rule of a 16-bit form: how its ModR/M byte decodes, and the 16-bit sum that is its offset. -/
theorem formRule16_intro {mod : BitVec 2} {rm : RegIdx} {dispLen : Nat} {form : RegIdx → Nat → Instr} {dflt : Seg}
    {offset : State → Nat → Nat} {sum : State → Nat → BitVec 16}
    (hdecode : ∀ m disp rest, modOf m = mod → rmOf m = rm → disp.length = dispLen →
      decodeM16 (m :: (disp ++ rest)) = .ok (form (regOf m) (leValue disp)) rest)
    (hexec : ∀ reg d s, exec (form reg d) s = completeForm (1 + dispLen) (s.memLocation dflt (zext16 (sum s d))) reg s)
    (hsum : ∀ s d, d < 256 ^ dispLen → (sum s d).toNat = offset s d) :
    formRule false (modrmByte mod 0 rm) dispLen form dflt offset := by
  refine ⟨fun m disp rest hm hlen => ?_, fun reg d s hd hfits => ?_⟩
  · obtain ⟨hmod, hrm⟩ := mod_rm_of_mask hm
    rw [decodeSpecifier_false]
    exact hdecode m disp rest hmod hrm hlen
  · rw [hexec, completeForm_resolved hfits, memLocation_eq_memoryAt, zext16_toNat, hsum s d hd]

theorem form16M0_rule {rm : RegIdx} {f : RegIdx → Instr} (hf : form16M0 rm = some f) :
    formRule false (modrmByte 0 0 rm) 0 (fun reg _ => f reg) (seg16 rm) (fun s _ => sum16 rm s % 2 ^ 16) := by
  refine formRule16_intro (sum := fun s _ => (baseIndex16 rm s).1) (fun m disp rest hmod hrm hlen => ?_)
    (fun reg d s => ?_) fun s d _ => baseIndex16_toNat rm s
  · obtain rfl := List.length_eq_zero_iff.mp hlen
    exact decodeM16_mod0 rest hmod (hrm ▸ hf)
  · rw [exec_form16M0 hf, baseIndex16_seg]

theorem form16M0_disp_rule : formRule false (modrmByte 0 0 6) 2 (fun reg d => .a16M0Rm6 reg (BitVec.ofNat 16 d)) .ds
    (fun _ d => d % 2 ^ 16) := by
  refine formRule16_intro (sum := fun _ d => BitVec.ofNat 16 d) (fun m disp rest hmod hrm hlen => ?_)
    (fun reg d s => rfl) fun s d _ => BitVec.toNat_ofNat d 16
  rw [decodeM16_mod0_disp _ hmod hrm, withDisp16_append rest hlen]

theorem form16M1_rule (rm : RegIdx) : formRule false (modrmByte 1 0 rm) 1
    (fun reg d => form16M1 rm reg (BitVec.ofNat 8 d)) (seg16 rm) (fun s d => (sum16 rm s + sext 16 d) % 2 ^ 16) := by
  refine formRule16_intro (sum := fun s d => (baseIndex16 rm s).1 + sext8to16 (BitVec.ofNat 8 d))
    (fun m disp rest hmod hrm hlen => ?_) (fun reg d s => ?_) fun s d hd => ?_
  · rw [decodeM16_mod1 _ hmod, withDisp8_append rest hlen, hrm]
  · rw [exec_form16M1, baseIndex16_seg]
  · rw [baseIndex16_add_toNat, sext8to16, signExtend_byte_toNat (by decide) hd]

theorem form16M2_rule (rm : RegIdx) : formRule false (modrmByte 2 0 rm) 2
    (fun reg d => form16M2 rm reg (BitVec.ofNat 16 d)) (seg16 rm) (fun s d => (sum16 rm s + d) % 2 ^ 16) := by
  refine formRule16_intro (sum := fun s d => (baseIndex16 rm s).1 + BitVec.ofNat 16 d)
    (fun m disp rest hmod hrm hlen => ?_) (fun reg d s => ?_) fun s d hd => ?_
  · rw [decodeM16_mod2 _ hmod, withDisp16_append rest hlen, hrm]
  · rw [exec_form16M2, baseIndex16_seg]
  · rw [baseIndex16_add_toNat, BitVec.toNat_ofNat, Nat.add_mod_mod]

/-- Settles O1: seven base/index combinations without displacement, and `[d16]` in the place of the eighth. -/
theorem form16WithoutBaseDisplacement : Obligations.Form16WithoutBaseDisplacement :=
  ⟨form16M0_rule (rm := 0) rfl, form16M0_rule (rm := 1) rfl, form16M0_rule (rm := 2) rfl, form16M0_rule (rm := 3) rfl,
    form16M0_rule (rm := 4) rfl, form16M0_rule (rm := 5) rfl, form16M0_disp_rule, form16M0_rule (rm := 7) rfl⟩

/-- Settles O2: the eight base/index combinations with a displacement byte. -/
theorem form16WithDisp8 : Obligations.Form16WithDisp8 :=
  ⟨form16M1_rule 0, form16M1_rule 1, form16M1_rule 2, form16M1_rule 3, form16M1_rule 4, form16M1_rule 5, form16M1_rule 6,
    form16M1_rule 7⟩

/-- Settles O3: the eight base/index combinations with two displacement bytes. -/
theorem form16WithDisp16 : Obligations.Form16WithDisp16 :=
  ⟨form16M2_rule 0, form16M2_rule 1, form16M2_rule 2, form16M2_rule 3, form16M2_rule 4, form16M2_rule 5, form16M2_rule 6,
    form16M2_rule 7⟩

/-! ### The register forms (R145, R172) -/

theorem mod_of_mask {m : Byte} (h : m &&& 0xC0#8 = 0xC0#8) : modOf m = 3 := by
  have hmod := congrArg modOf h
  simp only [modOf, BitVec.extractLsb'_and] at hmod
  exact BitVec.and_allOnes.symm.trans hmod

theorem decodeM32_mod3 {m : Byte} (rest : List Byte) (hmod : modOf m = 3) :
    decodeM32 (m :: rest) = .ok (.a32Reg (regOf m) (rmOf m)) rest := by
  rw [decodeM32, hmod]
  rfl

/-- A register form is no SIB escape (R93). -/
theorem decodeSpecifier_true_mod3 {m : Byte} (rest : List Byte) (hmod : modOf m = 3) :
    decodeSpecifier true (m :: rest) = decodeM32 (m :: rest) := by
  have hescape : isSibEscape m = false := by simp only [isSibEscape, hmod]; rfl
  have hformat : selectFormat true (m :: rest) = .m32 := by
    cases rest with
    | nil => rfl
    | cons b rest => rw [selectFormat, hescape]; rfl
  rw [decodeSpecifier, hformat, decode]

/-- Settles O4: mod = 3 decodes to the register form in both address sizes; the rest is what these operations say of a register
location. -/
theorem registerForms : Obligations.RegisterForms := by
  refine ⟨fun a32 m rest hm => ?_, fun reg rm s hfits => ?_, fun width w rm v s hw => ?_, fun _ _ _ _ _ => ⟨rfl, rfl⟩⟩
  · have hmod := mod_of_mask hm
    cases a32 with
    | false => rw [decodeSpecifier_false, decodeM16_mod3 rest hmod]; rfl
    | true => rw [decodeSpecifier_true_mod3 rest hmod, decodeM32_mod3 rest hmod]; rfl
  · exact ⟨completeForm_resolved hfits, completeForm_resolved hfits⟩
  · exact ⟨by rw [readLocation, hw], by rw [writeLocation, hw]⟩

end Sys2Proof.Machine

/-! PROOFS. The 32-bit addressing forms without SIB byte and the SIB escapes (41_resolver32.md): how a ModR/M byte decodes, what
each form answers, and how an escape goes on to the form of its SIB byte. -/

namespace Sys2Proof.Machine

open Sys2Proof.Claims

/-! ### Decoding a ModR/M byte in the 32-bit address mode (R91, R93, R95) -/

theorem withDisp32_append {f : BitVec 32 → Instr} {disp : List Byte} (rest : List Byte) (h : disp.length = 4) :
    withDisp32 f (disp ++ rest) = .ok (f (BitVec.ofNat 32 (leValue disp))) rest := by
  obtain ⟨a, b, c, d, rfl⟩ := List.length_eq_four.mp h
  rw [ofNat_leValue_four]
  rfl

theorem decodeM32_mod0 {m : Byte} {f : RegIdx → Instr} (rest : List Byte) (hmod : modOf m = 0)
    (hf : form32M0 (rmOf m) = some f) : decodeM32 (m :: rest) = .ok (f (regOf m)) rest := by
  simp only [decodeM32, hmod, hf]
  rfl

theorem decodeM32_mod0_disp {m : Byte} (bs : List Byte) (hmod : modOf m = 0) (hrm : rmOf m = 5) :
    decodeM32 (m :: bs) = withDisp32 (.a32M0Rm5 (regOf m)) bs := by
  rw [decodeM32, hmod, hrm]
  rfl

theorem decodeM32_mod1 {m : Byte} {f : RegIdx → BitVec 8 → Instr} (bs : List Byte) (hmod : modOf m = 1)
    (hf : form32M1 (rmOf m) = some f) : decodeM32 (m :: bs) = withDisp8 (f (regOf m)) bs := by
  simp only [decodeM32, hmod, hf]
  rfl

theorem decodeM32_mod2 {m : Byte} {f : RegIdx → BitVec 32 → Instr} (bs : List Byte) (hmod : modOf m = 2)
    (hf : form32M2 (rmOf m) = some f) : decodeM32 (m :: bs) = withDisp32 (f (regOf m)) bs := by
  simp only [decodeM32, hmod, hf]
  rfl

theorem decodeM32_mod0_escape {m : Byte} (rest : List Byte) (hmod : modOf m = 0) (hrm : rmOf m = 4) :
    decodeM32 (m :: rest) = .ok (.a32SibM0 (regOf m)) rest :=
  decodeM32_mod0 rest hmod (hrm ▸ rfl)

theorem decodeM32_mod1_escape {m : Byte} (rest : List Byte) (hmod : modOf m = 1) (hrm : rmOf m = 4) :
    decodeM32 (m :: rest) = .ok (.a32SibM1 (regOf m)) rest := by
  rw [decodeM32, hmod, hrm]
  rfl

theorem decodeM32_mod2_escape {m : Byte} (rest : List Byte) (hmod : modOf m = 2) (hrm : rmOf m = 4) :
    decodeM32 (m :: rest) = .ok (.a32SibM2 (regOf m)) rest := by
  rw [decodeM32, hmod, hrm]
  rfl

theorem isSibEscape_iff (m : Byte) : isSibEscape m = true ↔ modOf m ≠ 3 ∧ rmOf m = 4 := by
  rw [isSibEscape, Bool.and_eq_true, decide_eq_true_iff, decide_eq_true_iff]
  rfl

theorem decodeSpecifier_true_of_rm {m : Byte} (bs : List Byte) (hrm : rmOf m ≠ 4) :
    decodeSpecifier true (m :: bs) = decodeM32 (m :: bs) := by
  have hescape : ¬ isSibEscape m = true := fun h => hrm ((isSibEscape_iff m).mp h).2
  cases bs with
  | nil => rfl
  | cons b bs => rw [decodeSpecifier, selectFormat, if_pos rfl, if_neg hescape]; rfl

theorem decodeSpecifier_true_of_escape {m : Byte} (sib : Byte) (bs : List Byte) (h : isSibEscape m = true) :
    decodeSpecifier true (m :: sib :: bs) = decode .m32s (m :: sib :: bs) := by
  rw [decodeSpecifier, selectFormat, if_pos rfl, if_pos h]

/-! ### What a 32-bit form without SIB byte answers (R151 to R171) -/

theorem exec_form32M0 {rm : RegIdx} (hrm : rm ≠ 4) : ∀ {f : RegIdx → Instr}, form32M0 rm = some f → ∀ reg s,
    exec (f reg) s = completeForm 1 (s.memLocation .ds (s.gpr32 rm)) reg s := by
  induction rm using regIdx_induct
  case h4 => exact absurd rfl hrm
  all_goals rintro f ⟨⟩ reg s <;> rfl

/-- The default segment of a base register: SS for EBP (R150). -/
def seg32 (rm : RegIdx) : Seg := if rm = 5 then .ss else .ds

theorem exec_form32M1 {rm : RegIdx} : ∀ {f : RegIdx → BitVec 8 → Instr}, form32M1 rm = some f → ∀ reg d s,
    exec (f reg d) s = completeForm 2 (s.memLocation (seg32 rm) (s.gpr32 rm + sext8to32 d)) reg s := by
  induction rm using regIdx_induct <;> rintro f ⟨⟩ reg d s <;> rfl

theorem exec_form32M2 {rm : RegIdx} : ∀ {f : RegIdx → BitVec 32 → Instr}, form32M2 rm = some f → ∀ reg d s,
    exec (f reg d) s = completeForm 5 (s.memLocation (seg32 rm) (s.gpr32 rm + d)) reg s := by
  induction rm using regIdx_induct <;> rintro f ⟨⟩ reg d s <;> rfl

/-- A rule of a 32-bit form without SIB byte: how its ModR/M byte decodes, and the 32-bit sum that is its offset. -/
theorem formRule32_intro {mod : BitVec 2} {rm : RegIdx} {dispLen : Nat} {form : RegIdx → Nat → Instr} {dflt : Seg}
    {offset : State → Nat → Nat} {sum : State → Nat → Word} (hrm : rm ≠ 4)
    (hdecode : ∀ m disp rest, modOf m = mod → rmOf m = rm → disp.length = dispLen →
      decodeM32 (m :: (disp ++ rest)) = .ok (form (regOf m) (leValue disp)) rest)
    (hexec : ∀ reg d s, exec (form reg d) s = completeForm (1 + dispLen) (s.memLocation dflt (sum s d)) reg s)
    (hsum : ∀ s d, d < 256 ^ dispLen → (sum s d).toNat = offset s d) :
    formRule true (modrmByte mod 0 rm) dispLen form dflt offset := by
  refine ⟨fun m disp rest hm hlen => ?_, fun reg d s hd hfits => ?_⟩
  · obtain ⟨hmodm, hrmm⟩ := mod_rm_of_mask hm
    rw [decodeSpecifier_true_of_rm _ (hrmm ▸ hrm)]
    exact hdecode m disp rest hmodm hrmm hlen
  · rw [hexec, completeForm_resolved hfits, memLocation_eq_memoryAt, hsum s d hd]

theorem form32M0_rule {rm : RegIdx} {f : RegIdx → Instr} (hrm : rm ≠ 4) (hf : form32M0 rm = some f) :
    formRule true (modrmByte 0 0 rm) 0 (fun reg _ => f reg) .ds (fun s _ => r32 s rm) := by
  refine formRule32_intro (sum := fun s _ => s.gpr32 rm) hrm (fun m disp rest hmod hrmm hlen => ?_)
    (fun reg _ s => exec_form32M0 hrm hf reg s) fun s _ _ => gpr32_toNat s rm
  obtain rfl := List.length_eq_zero_iff.mp hlen
  exact decodeM32_mod0 rest hmod (hrmm ▸ hf)

theorem form32M0_disp_rule :
    formRule true (modrmByte 0 0 5) 4 (fun reg d => .a32M0Rm5 reg (BitVec.ofNat 32 d)) .ds (fun _ d => d) := by
  refine formRule32_intro (sum := fun _ d => BitVec.ofNat 32 d) (by decide) (fun m disp rest hmod hrm hlen => ?_)
    (fun _ _ _ => rfl) fun _ d hd => BitVec.toNat_ofNat d 32 ▸ Nat.mod_eq_of_lt hd
  rw [decodeM32_mod0_disp _ hmod hrm, withDisp32_append rest hlen]

theorem form32M1_rule {rm : RegIdx} {f : RegIdx → BitVec 8 → Instr} (hf : form32M1 rm = some f) :
    formRule true (modrmByte 1 0 rm) 1 (fun reg d => f reg (BitVec.ofNat 8 d)) (seg32 rm)
      (fun s d => (r32 s rm + sext 32 d) % 2 ^ 32) := by
  refine formRule32_intro (sum := fun s d => s.gpr32 rm + sext8to32 (BitVec.ofNat 8 d)) (by rintro rfl; cases hf)
    (fun m disp rest hmod hrmm hlen => ?_) (fun reg d s => exec_form32M1 hf reg _ s) fun s d hd => ?_
  · rw [decodeM32_mod1 _ hmod (hrmm ▸ hf), withDisp8_append rest hlen]
  · rw [BitVec.toNat_add, gpr32_toNat, sext8to32, signExtend_byte_toNat (by decide) hd]

theorem form32M2_rule {rm : RegIdx} {f : RegIdx → BitVec 32 → Instr} (hf : form32M2 rm = some f) :
    formRule true (modrmByte 2 0 rm) 4 (fun reg d => f reg (BitVec.ofNat 32 d)) (seg32 rm)
      (fun s d => (r32 s rm + d) % 2 ^ 32) := by
  refine formRule32_intro (sum := fun s d => s.gpr32 rm + BitVec.ofNat 32 d) (by rintro rfl; cases hf)
    (fun m disp rest hmod hrmm hlen => ?_) (fun reg d s => exec_form32M2 hf reg _ s) fun s d _ => ?_
  · rw [decodeM32_mod2 _ hmod (hrmm ▸ hf), withDisp32_append rest hlen]
  · rw [BitVec.toNat_add, gpr32_toNat, BitVec.toNat_ofNat, Nat.add_mod_mod]

/-- Settles O5: six base registers without displacement, and `[d32]` in the place of EBP. -/
theorem form32WithoutBaseDisplacement : Obligations.Form32WithoutBaseDisplacement :=
  ⟨form32M0_rule (rm := 0) (by decide) rfl, form32M0_rule (rm := 1) (by decide) rfl, form32M0_rule (rm := 2) (by decide) rfl,
    form32M0_rule (rm := 3) (by decide) rfl, form32M0_disp_rule, form32M0_rule (rm := 6) (by decide) rfl,
    form32M0_rule (rm := 7) (by decide) rfl⟩

/-- Settles O6: seven base registers with a displacement byte. -/
theorem form32WithDisp8 : Obligations.Form32WithDisp8 :=
  ⟨form32M1_rule (rm := 0) rfl, form32M1_rule (rm := 1) rfl, form32M1_rule (rm := 2) rfl, form32M1_rule (rm := 3) rfl,
    form32M1_rule (rm := 5) rfl, form32M1_rule (rm := 6) rfl, form32M1_rule (rm := 7) rfl⟩

/-- Settles O7: seven base registers with four displacement bytes. -/
theorem form32WithDisp32 : Obligations.Form32WithDisp32 :=
  ⟨form32M2_rule (rm := 0) rfl, form32M2_rule (rm := 1) rfl, form32M2_rule (rm := 2) rfl, form32M2_rule (rm := 3) rfl,
    form32M2_rule (rm := 5) rfl, form32M2_rule (rm := 6) rfl, form32M2_rule (rm := 7) rfl⟩

/-! ### What a SIB form answers (R180 to R191) -/

theorem indexTerm_none (scale : BitVec 2) (s : State) : indexTerm 4 scale s = 0#32 := rfl

/-- The SIB rows of mod = 0 with a base register: index 4 adds nothing, any other index its scaled register. -/
theorem exec_sibM0 {base index : RegIdx} : ∀ {f : RegIdx → BitVec 2 → Instr}, sibM0 base index = some f → ∀ reg scale s,
    exec (f reg scale) s =
      completeForm 2 (s.memLocation (sibBaseSeg base s) (s.gpr32 base + indexTerm index scale s)) reg s := by
  induction index using regIdx_induct
  case h4 =>
    simp only [indexTerm_none, BitVec.add_zero]
    induction base using regIdx_induct <;> rintro f ⟨⟩ reg scale s <;> rfl
  all_goals induction base using regIdx_induct <;> rintro f ⟨⟩ reg scale s <;> rfl

theorem exec_sibM0B5 (index reg : RegIdx) (scale : BitVec 2) (d : BitVec 32) (s : State) :
    exec (sibM0B5 index reg scale d) s = completeForm 6 (s.memLocation .ds (d + indexTerm index scale s)) reg s := by
  induction index using regIdx_induct
  case h4 => rw [indexTerm_none, BitVec.add_zero]; rfl
  all_goals rfl

theorem exec_sibM1 (base index reg : RegIdx) (scale : BitVec 2) (d : BitVec 8) (s : State) :
    exec (sibM1 base index reg scale d) s =
      completeForm 3 (s.memLocation (sibBaseSeg base s) (s.gpr32 base + indexTerm index scale s + sext8to32 d)) reg s := by
  induction index using regIdx_induct
  case h4 =>
    rw [indexTerm_none, BitVec.add_zero]
    induction base using regIdx_induct <;> rfl
  all_goals induction base using regIdx_induct <;> rfl

theorem exec_sibM2 (base index reg : RegIdx) (scale : BitVec 2) (d : BitVec 32) (s : State) :
    exec (sibM2 base index reg scale d) s =
      completeForm 6 (s.memLocation (sibBaseSeg base s) (s.gpr32 base + indexTerm index scale s + d)) reg s := by
  induction index using regIdx_induct
  case h4 =>
    rw [indexTerm_none, BitVec.add_zero]
    induction base using regIdx_induct <;> rfl
  all_goals induction base using regIdx_induct <;> rfl

/-- Every base number but 5 has its SIB row without displacement (R182). -/
theorem sibM0_of_base {base : RegIdx} (index : RegIdx) (h : base ≠ 5) : ∃ f, sibM0 base index = some f := by
  induction base using regIdx_induct
  case h5 => exact absurd rfl h
  all_goals exact ⟨_, rfl⟩

/-! ### Bytes left in the window -/

theorem drop_add_of_drop {α : Type} {l xs ys : List α} {c : Nat} (h : l.drop c = xs ++ ys) : l.drop (c + xs.length) = ys := by
  rw [← List.drop_drop, h, List.drop_left]

theorem drop_setCursor_succ {s : State} {b : Byte} {left : List Byte} (h : s.win.drop s.cursor = b :: left) :
    (s.setCursor (s.cursor + 1)).win.drop (s.setCursor (s.cursor + 1)).cursor = left :=
  drop_add_of_drop (xs := [b]) h

theorem fetch8_of_drop {s : State} {b : Byte} {left : List Byte} (h : s.win.drop s.cursor = b :: left) :
    fetch8 s = .ok b (s.setCursor (s.cursor + 1)) := by
  have hbyte : s.win[s.cursor]? = some b := by rw [← List.head?_drop, h, List.head?_cons]
  rw [fetch8, hbyte]

theorem fetch8_of_append {s : State} {disp left : List Byte} (hlen : disp.length = 1)
    (h : s.win.drop s.cursor = disp ++ left) :
    fetch8 s = .ok (BitVec.ofNat 8 (leValue disp)) (s.setCursor (s.cursor + 1)) := by
  obtain ⟨a, rfl⟩ := List.length_eq_one_iff.mp hlen
  rw [ofNat_leValue_one, fetch8_of_drop h]

theorem fetch16_of_drop {s : State} {a b : Byte} {left : List Byte} (h : s.win.drop s.cursor = a :: b :: left) :
    fetch16 s = .ok (le16 a b) (s.setCursor (s.cursor + 2)) := by
  rw [fetch16, fetch8_of_drop h, Res.bind_ok, fetch8_of_drop (drop_setCursor_succ h)]
  rfl

theorem le16_append_le16 (a b c d : Byte) : le16 c d ++ le16 a b = le32 a b c d := by
  apply BitVec.eq_of_toNat_eq
  rw [toNat_append_eq, le16_toNat, le16_toNat, le32_toNat]
  omega

theorem fetch32_of_append {s : State} {disp left : List Byte} (hlen : disp.length = 4)
    (h : s.win.drop s.cursor = disp ++ left) :
    fetch32 s = .ok (BitVec.ofNat 32 (leValue disp)) (s.setCursor (s.cursor + 4)) := by
  obtain ⟨a, b, c, d, rfl⟩ := List.length_eq_four.mp hlen
  have hnext : (s.setCursor (s.cursor + 2)).win.drop (s.cursor + 2) = c :: d :: left := drop_add_of_drop (xs := [a, b]) h
  rw [fetch32, fetch16_of_drop h, Res.bind_ok, fetch16_of_drop hnext, ofNat_leValue_four, ← le16_append_le16]
  rfl

/-! ### The SIB escapes (R173) -/

/-- Bytes `sib` and `disp` complete an escape of this `mod` in both ways with location `loc`: as the M32S form they decode to,
and by the resolver that finds them in the window. The cursor has no part in the location. -/
structure CompletesEscape (mod : BitVec 2) (sib : Byte) (disp : List Byte) (loc : State → Location) : Prop where
  form : ∀ m rest, modOf m = mod → ∃ i, decodeSib m sib (disp ++ rest) = .ok i rest ∧
    ∀ s, exec i s = completeForm (2 + disp.length) (loc s) (regOf m) s
  resolver : ∀ reg rest s, s.win.drop s.cursor = sib :: (disp ++ rest) →
    resolveEscape mod reg s = .ok (loc s, reg) (s.setCursor (s.cursor + (1 + disp.length)))
  loc_setCursor : ∀ s c, loc (s.setCursor c) = loc s

/-- Base plus index of a SIB byte (R182). -/
def sibTerms (sib : Byte) (s : State) : Word := s.gpr32 (baseOf sib) + indexTerm (indexOf sib) (scaleOf sib) s

theorem resolveSib_of_base {mod : BitVec 2} {s : State} {sib : Byte} {left : List Byte}
    (hdrop : s.win.drop s.cursor = sib :: left) (hbase : ¬ (baseOf sib = 5 ∧ mod = 0)) :
    resolveSib mod s = .ok (sibTerms sib s, sibBaseSeg (baseOf sib) s) (s.setCursor (s.cursor + 1)) := by
  rw [resolveSib, fetch8_of_drop hdrop, Res.bind_ok, if_neg hbase]
  rfl

theorem completesEscape_mod0_base {sib : Byte} (hbase : baseOf sib ≠ 5) :
    CompletesEscape 0 sib [] fun s => s.memLocation (sibBaseSeg (baseOf sib) s) (sibTerms sib s) where
  form m rest hmod := by
    obtain ⟨f, hf⟩ := sibM0_of_base (indexOf sib) hbase
    refine ⟨f (regOf m) (scaleOf sib), ?_, exec_sibM0 hf _ _⟩
    simp only [decodeSib, hmod, hf]
    rfl
  resolver reg rest s hdrop := by
    rw [resolveEscape, resolveSib_of_base hdrop fun h => hbase h.1]
    rfl
  loc_setCursor _ _ := rfl

theorem completesEscape_mod0_noBase {sib : Byte} {disp : List Byte} (hbase : baseOf sib = 5) (hlen : disp.length = 4) :
    CompletesEscape 0 sib disp fun s =>
      s.memLocation .ds (BitVec.ofNat 32 (leValue disp) + indexTerm (indexOf sib) (scaleOf sib) s) where
  form m rest hmod := by
    refine ⟨sibM0B5 (indexOf sib) (regOf m) (scaleOf sib) (BitVec.ofNat 32 (leValue disp)), ?_, fun s => ?_⟩
    · rw [decodeSib, hmod, hbase, ← withDisp32_append rest hlen]
      rfl
    · rw [exec_sibM0B5, hlen]
  resolver reg rest s hdrop := by
    rw [resolveEscape, resolveSib, fetch8_of_drop hdrop, Res.bind_ok, if_pos ⟨hbase, rfl⟩,
      fetch32_of_append hlen (drop_setCursor_succ hdrop), hlen]
    rfl
  loc_setCursor _ _ := rfl

theorem completesEscape_mod1 {sib : Byte} {disp : List Byte} (hlen : disp.length = 1) :
    CompletesEscape 1 sib disp fun s =>
      s.memLocation (sibBaseSeg (baseOf sib) s) (sibTerms sib s + sext8to32 (BitVec.ofNat 8 (leValue disp))) where
  form m rest hmod := by
    refine ⟨sibM1 (baseOf sib) (indexOf sib) (regOf m) (scaleOf sib) (BitVec.ofNat 8 (leValue disp)), ?_, fun s => ?_⟩
    · rw [decodeSib, hmod, ← withDisp8_append rest hlen]
      rfl
    · rw [exec_sibM1, hlen, sibTerms]
  resolver reg rest s hdrop := by
    rw [resolveEscape, resolveSib_of_base hdrop fun h => absurd h.2 (by decide), Res.bind_ok, addDisp32, if_pos rfl,
      fetch8_of_append hlen (drop_setCursor_succ hdrop), hlen]
    rfl
  loc_setCursor _ _ := rfl

theorem completesEscape_mod2 {sib : Byte} {disp : List Byte} (hlen : disp.length = 4) :
    CompletesEscape 2 sib disp fun s =>
      s.memLocation (sibBaseSeg (baseOf sib) s) (sibTerms sib s + BitVec.ofNat 32 (leValue disp)) where
  form m rest hmod := by
    refine ⟨sibM2 (baseOf sib) (indexOf sib) (regOf m) (scaleOf sib) (BitVec.ofNat 32 (leValue disp)), ?_, fun s => ?_⟩
    · rw [decodeSib, hmod, ← withDisp32_append rest hlen]
      rfl
    · rw [exec_sibM2, hlen, sibTerms]
  resolver reg rest s hdrop := by
    rw [resolveEscape, resolveSib_of_base hdrop fun h => absurd h.2 (by decide), Res.bind_ok, addDisp32,
      if_neg (by decide), if_pos rfl, fetch32_of_append hlen (drop_setCursor_succ hdrop), hlen]
    rfl
  loc_setCursor _ _ := rfl

/-- Every SIB byte and displacement of the length it asks for complete the escape (R95, R173). -/
theorem exists_completesEscape {mod : BitVec 2} {sib : Byte} {disp : List Byte} (hmod : mod = 0 ∨ mod = 1 ∨ mod = 2)
    (hlen : disp.length = sibDispLen mod (baseOf sib)) : ∃ loc, CompletesEscape mod sib disp loc := by
  rcases hmod with rfl | rfl | rfl
  · by_cases hbase : baseOf sib = 5
    · exact ⟨_, completesEscape_mod0_noBase hbase (hlen.trans (by rw [hbase]; rfl))⟩
    · obtain rfl := List.length_eq_zero_iff.mp (hlen.trans (if_neg hbase))
      exact ⟨_, completesEscape_mod0_base hbase⟩
  · exact ⟨_, completesEscape_mod1 hlen⟩
  · exact ⟨_, completesEscape_mod2 hlen⟩

theorem isSibEscape_of_fields {m : Byte} {mod : BitVec 2} (hmod : mod = 0 ∨ mod = 1 ∨ mod = 2) (hm : modOf m = mod)
    (hrm : rmOf m = 4) : isSibEscape m = true := by
  refine (isSibEscape_iff m).mpr ⟨?_, hrm⟩
  rw [hm]
  rcases hmod with rfl | rfl | rfl <;> decide

/-- An escape of this `mod`: how its byte decodes, and that it leaves the rest to the resolver. -/
theorem escapeRule_intro {mod : BitVec 2} {escape : RegIdx → Instr} (hmod : mod = 0 ∨ mod = 1 ∨ mod = 2)
    (hdecode : ∀ m rest, modOf m = mod → rmOf m = 4 → decodeM32 (m :: rest) = .ok (escape (regOf m)) rest)
    (hexec : ∀ reg s, exec (escape reg) s = answerLocation ((skipBytes 1 s).bind fun _ t => resolveEscape mod reg t)) :
    escapeRule mod escape := by
  refine ⟨fun m rest hm => ?_, fun m sib rest hm => ?_, fun reg sib disp rest s hdrop hlen hfits => ?_⟩
  · obtain ⟨hmodm, hrm⟩ := mod_rm_of_mask hm
    exact hdecode m rest hmodm hrm
  · obtain ⟨hmodm, hrm⟩ := mod_rm_of_mask hm
    exact decodeSpecifier_true_of_escape sib rest (isSibEscape_of_fields hmod hmodm hrm)
  · obtain ⟨hmodm, hregm, hrmm⟩ := modrmByte_fields mod reg 4
    obtain ⟨loc, hform, hresolver, hloc⟩ := exists_completesEscape hmod hlen
    obtain ⟨i, hi, hexeci⟩ := hform _ rest hmodm
    have hcursor : s.cursor + 1 + (1 + disp.length) = s.cursor + (2 + disp.length) := by omega
    have hescape : exec (escape reg) s = .next (resolved s (2 + disp.length) (loc s) reg) := by
      rw [hexec, skipBytes_eq (by omega), Res.bind_ok, hresolver reg rest (s.setCursor (s.cursor + 1)) hdrop, hloc,
        State.setCursor_cursor, hcursor]
      rfl
    refine ⟨i, loc s, ?_, ?_, hescape⟩
    · rw [decode, decodeM32s, if_pos (isSibEscape_of_fields hmod hmodm hrmm), hi]
    · rw [hescape, hexeci, hregm, completeForm_resolved hfits]

/-- Settles O8: the form of the SIB byte and the resolver answer one location for each of the four shapes of a SIB specifier. -/
theorem sibEscapeTakesTheNextByte : Obligations.SibEscapeTakesTheNextByte :=
  ⟨escapeRule_intro (.inl rfl) (fun _ rest => decodeM32_mod0_escape rest) fun _ _ => rfl,
    escapeRule_intro (.inr (.inl rfl)) (fun _ rest => decodeM32_mod1_escape rest) fun _ _ => rfl,
    escapeRule_intro (.inr (.inr rfl)) (fun _ rest => decodeM32_mod2_escape rest) fun _ _ => rfl⟩

end Sys2Proof.Machine

/-! PROOFS. The 32-bit addressing forms with a SIB byte (42_resolver32_sib.md): how ModR/M and SIB byte decode, which row an
M32S instruction is, and the offset of each class of form in numbers. -/

namespace Sys2Proof.Machine

open Sys2Proof.Claims

/-! ### Decoding ModR/M and SIB byte (R91, R93, R180 to R190) -/

/-- The number a class of SIB form matches is its ModR/M byte with `reg` = 0 and its SIB byte with `scale` = 0 (R108). -/
theorem sibWord_eq_append (mod : BitVec 2) (base index : RegIdx) :
    BitVec.ofNat 16 (0x0400 + 0x4000 * mod.toNat + 8 * index.toNat + base.toNat) =
      modrmByte mod 0 4 ++ sibByte 0 index base := by
  apply BitVec.eq_of_toNat_eq
  have hfit : 0x0400 + 0x4000 * mod.toNat + 8 * index.toNat + base.toNat < 2 ^ 16 := by omega
  simp only [modrmByte, sibByte, toNat_append_eq, BitVec.ofNat_eq_ofNat, BitVec.toNat_ofNat, Nat.mod_eq_of_lt hfit]
  omega

/-- Under mask 0x3F a SIB byte is its index and base. -/
theorem index_base_of_mask {sib : Byte} {index base : RegIdx} (h : sib &&& 0x3F#8 = sibByte 0 index base) :
    indexOf sib = index ∧ baseOf sib = base := by
  obtain ⟨-, hindex, hbase⟩ := sibByte_fields 0 index base
  rw [← h] at hindex hbase
  refine ⟨hindex ▸ ?_, hbase ▸ ?_⟩
  · simp only [indexOf, BitVec.extractLsb'_and]
    exact BitVec.and_allOnes.symm
  · simp only [baseOf, BitVec.extractLsb'_and]
    exact BitVec.and_allOnes.symm

/-- Under mask 0xC73F a ModR/M and a SIB byte are mod, rm = 4, index and base. -/
theorem sib_fields_of_mask {m sib : Byte} {mod : BitVec 2} {base index : RegIdx}
    (h : (m ++ sib) &&& 0xC73F#16 =
      BitVec.ofNat 16 (0x0400 + 0x4000 * mod.toNat + 8 * index.toNat + base.toNat)) :
    modOf m = mod ∧ rmOf m = 4 ∧ indexOf sib = index ∧ baseOf sib = base := by
  have hbytes : (m &&& 0xC7#8) ++ (sib &&& 0x3F#8) = modrmByte mod 0 4 ++ sibByte 0 index base := by
    rw [← BitVec.and_append, ← sibWord_eq_append, ← h]
    rfl
  have hm : m &&& 0xC7#8 = modrmByte mod 0 4 := by
    simpa only [BitVec.extractLsb'_append_eq_left] using congrArg (BitVec.extractLsb' 8 8) hbytes
  have hsib : sib &&& 0x3F#8 = sibByte 0 index base := by
    simpa only [BitVec.extractLsb'_append_eq_right] using congrArg (BitVec.extractLsb' 0 8) hbytes
  obtain ⟨hmod, hrm⟩ := mod_rm_of_mask hm
  exact ⟨hmod, hrm, index_base_of_mask hsib⟩

theorem decodeSpecifier_true_of_sib {m : Byte} {mod : BitVec 2} (sib : Byte) (bs : List Byte)
    (hmod : mod = 0 ∨ mod = 1 ∨ mod = 2) (hm : modOf m = mod) (hrm : rmOf m = 4) :
    decodeSpecifier true (m :: sib :: bs) = decodeSib m sib bs := by
  have hescape := isSibEscape_of_fields hmod hm hrm
  rw [decodeSpecifier_true_of_escape sib bs hescape, decode, decodeM32s, if_pos hescape]

theorem decodeSib_mod0 {m sib : Byte} {form : RegIdx → BitVec 2 → Instr} (rest : List Byte) (hmod : modOf m = 0)
    (hform : sibM0 (baseOf sib) (indexOf sib) = some form) :
    decodeSib m sib rest = .ok (form (regOf m) (scaleOf sib)) rest := by
  simp only [decodeSib, hmod, hform]
  rfl

theorem decodeSib_mod0_noBase {m sib : Byte} (bs : List Byte) (hmod : modOf m = 0) (hbase : baseOf sib = 5) :
    decodeSib m sib bs = withDisp32 (sibM0B5 (indexOf sib) (regOf m) (scaleOf sib)) bs := by
  rw [decodeSib, hmod, hbase]
  rfl

theorem decodeSib_mod1 {m sib : Byte} (bs : List Byte) (hmod : modOf m = 1) :
    decodeSib m sib bs = withDisp8 (sibM1 (baseOf sib) (indexOf sib) (regOf m) (scaleOf sib)) bs := by
  rw [decodeSib, hmod]
  rfl

theorem decodeSib_mod2 {m sib : Byte} (bs : List Byte) (hmod : modOf m = 2) :
    decodeSib m sib bs = withDisp32 (sibM2 (baseOf sib) (indexOf sib) (regOf m) (scaleOf sib)) bs := by
  rw [decodeSib, hmod]
  rfl

/-! ### The fields of an M32S row -/

theorem sibFields_sibM0 {base index : RegIdx} : ∀ {form : RegIdx → BitVec 2 → Instr}, sibM0 base index = some form →
    ∀ reg scale, (form reg scale).sibFields = some ⟨0, base, index, reg, scale, []⟩ := by
  induction base using regIdx_induct <;> induction index using regIdx_induct <;> rintro form ⟨⟩ reg scale <;> rfl

theorem sibFields_sibM0B5 (index reg : RegIdx) (scale : BitVec 2) (d : BitVec 32) :
    (sibM0B5 index reg scale d).sibFields = some ⟨0, 5, index, reg, scale, bytes32 d⟩ := by
  induction index using regIdx_induct <;> rfl

theorem sibFields_sibM1 (base index reg : RegIdx) (scale : BitVec 2) (d : BitVec 8) :
    (sibM1 base index reg scale d).sibFields = some ⟨1, base, index, reg, scale, [d]⟩ := by
  induction base using regIdx_induct <;> induction index using regIdx_induct <;> rfl

theorem sibFields_sibM2 (base index reg : RegIdx) (scale : BitVec 2) (d : BitVec 32) :
    (sibM2 base index reg scale d).sibFields = some ⟨2, base, index, reg, scale, bytes32 d⟩ := by
  induction base using regIdx_induct <;> induction index using regIdx_induct <;> rfl

theorem bytes32_ofNat_leValue {disp : List Byte} (h : disp.length = 4) :
    bytes32 (BitVec.ofNat 32 (leValue disp)) = disp := by
  obtain ⟨a, b, c, d, rfl⟩ := List.length_eq_four.mp h
  rw [ofNat_leValue_four, bytes32_le32]

/-- ModR/M byte, SIB byte and the displacement they ask for decode to an instruction with these fields. -/
theorem exists_decodeSib {m sib : Byte} {mod : BitVec 2} {disp : List Byte} (rest : List Byte)
    (hmod : mod = 0 ∨ mod = 1 ∨ mod = 2) (hm : modOf m = mod) (hlen : disp.length = sibDispLen mod (baseOf sib)) :
    ∃ i, decodeSib m sib (disp ++ rest) = .ok i rest ∧
      i.sibFields = some ⟨mod, baseOf sib, indexOf sib, regOf m, scaleOf sib, disp⟩ := by
  rcases hmod with rfl | rfl | rfl
  · by_cases hbase : baseOf sib = 5
    · have hlen4 : disp.length = 4 := hlen.trans (by rw [hbase]; rfl)
      refine ⟨_, (decodeSib_mod0_noBase _ hm hbase).trans (withDisp32_append rest hlen4), ?_⟩
      rw [sibFields_sibM0B5, bytes32_ofNat_leValue hlen4, hbase]
    · obtain rfl := List.length_eq_zero_iff.mp (hlen.trans (if_neg hbase))
      obtain ⟨form, hform⟩ := sibM0_of_base (indexOf sib) hbase
      exact ⟨_, decodeSib_mod0 rest hm hform, sibFields_sibM0 hform _ _⟩
  · obtain ⟨d, rfl⟩ := List.length_eq_one_iff.mp hlen
    exact ⟨_, decodeSib_mod1 _ hm, sibFields_sibM1 _ _ _ _ _⟩
  · refine ⟨_, (decodeSib_mod2 _ hm).trans (withDisp32_append rest hlen), ?_⟩
    rw [sibFields_sibM2, bytes32_ofNat_leValue hlen]

/-! ### The row of an M32S instruction -/

/-- The M32S rows by their fields, one case for each of the decoder's matrices. -/
inductive SibForm : SibFields → Instr → Prop
  | mod0 {base index : RegIdx} {form : RegIdx → BitVec 2 → Instr} (hform : sibM0 base index = some form) (reg : RegIdx)
      (scale : BitVec 2) : SibForm ⟨0, base, index, reg, scale, []⟩ (form reg scale)
  | mod0NoBase (index reg : RegIdx) (scale : BitVec 2) (d : BitVec 32) :
      SibForm ⟨0, 5, index, reg, scale, bytes32 d⟩ (sibM0B5 index reg scale d)
  | mod1 (base index reg : RegIdx) (scale : BitVec 2) (d : BitVec 8) :
      SibForm ⟨1, base, index, reg, scale, [d]⟩ (sibM1 base index reg scale d)
  | mod2 (base index reg : RegIdx) (scale : BitVec 2) (d : BitVec 32) :
      SibForm ⟨2, base, index, reg, scale, bytes32 d⟩ (sibM2 base index reg scale d)

/-- An instruction with SIB fields stands in one of the matrices, at its base and index. -/
theorem sibForm_of_sibFields {i : Instr} {f : SibFields} (h : i.sibFields = some f) : SibForm f i := by
  cases i <;> cases h
  all_goals constructor
  all_goals rfl

theorem withDisp32_bytes32 (f : BitVec 32 → Instr) (d : BitVec 32) (rest : List Byte) :
    withDisp32 f (bytes32 d ++ rest) = .ok (f d) rest :=
  congrArg (fun v => Decoded.ok (f v) rest) (le32_bytes32 d)

/-- The bytes with the fields of an M32S instruction decode to it. -/
theorem SibForm.decodeSib {f : SibFields} {i : Instr} (h : SibForm f i) (rest : List Byte) :
    decodeSib (modrmByte f.mod f.reg 4) (sibByte f.scale f.index f.base) (f.disp ++ rest) = .ok i rest := by
  obtain ⟨hmod, hreg, -⟩ := modrmByte_fields f.mod f.reg 4
  obtain ⟨hscale, hindex, hbase⟩ := sibByte_fields f.scale f.index f.base
  cases h with
  | mod0 hform reg scale => rw [decodeSib_mod0 _ hmod (by rw [hbase, hindex, hform]), hreg, hscale]; rfl
  | mod0NoBase index reg scale d => rw [decodeSib_mod0_noBase _ hmod hbase, hindex, hreg, hscale, withDisp32_bytes32]
  | mod1 base index reg scale d => rw [decodeSib_mod1 _ hmod, hbase, hindex, hreg, hscale]; rfl
  | mod2 base index reg scale d => rw [decodeSib_mod2 _ hmod, hbase, hindex, hreg, hscale, withDisp32_bytes32]

/-- The displacement of an M32S instruction is as long as its mod and base ask for (R95). -/
theorem SibForm.disp_length {f : SibFields} {i : Instr} (h : SibForm f i) : f.disp.length = sibDispLen f.mod f.base := by
  cases h with
  | mod0 hform => exact (if_neg (by rintro rfl; cases hform)).symm
  | mod0NoBase | mod1 | mod2 => rfl

/-- What bytes that complete an escape say of the instruction with the same fields. -/
theorem CompletesEscape.exec_of_sibFields {i : Instr} {f : SibFields} {loc : State → Location} (hf : i.sibFields = some f)
    (h : CompletesEscape f.mod (sibByte f.scale f.index f.base) f.disp loc) (s : State) :
    exec i s = completeForm (2 + f.disp.length) (loc s) f.reg s := by
  obtain ⟨hmod, hreg, -⟩ := modrmByte_fields f.mod f.reg 4
  obtain ⟨j, hj, hexec⟩ := h.form _ [] hmod
  obtain ⟨rfl, -⟩ := Decoded.ok.inj (((sibForm_of_sibFields hf).decodeSib []).symm.trans hj)
  rw [hexec, hreg]

/-! ### The offset of a SIB form in numbers (R181, R182, R191) -/

theorem sibBaseSeg_eq_baseSeg (base : RegIdx) (s : State) : sibBaseSeg base s = baseSeg s base := rfl

theorem gpr32_eq_ofNat (s : State) (i : RegIdx) : s.gpr32 i = BitVec.ofNat 32 (r32 s i) := by
  rw [← gpr32_toNat, BitVec.ofNat_toNat, BitVec.setWidth_eq]

theorem indexTerm_eq_ofNat (index : RegIdx) (scale : BitVec 2) (s : State) :
    indexTerm index scale s = BitVec.ofNat 32 (sibTerm s index scale) := by
  by_cases h : index = 4
  · rw [indexTerm, sibTerm, if_pos h, if_pos h]
    rfl
  · apply BitVec.eq_of_toNat_eq
    rw [indexTerm, sibTerm, if_neg h, if_neg h, scaled, BitVec.toNat_shiftLeft, Nat.shiftLeft_eq, gpr32_toNat,
      BitVec.toNat_ofNat, Nat.mod_mod]

theorem sibTerms_eq_ofNat (sib : Byte) (s : State) :
    sibTerms sib s = BitVec.ofNat 32 (r32 s (baseOf sib) + sibTerm s (indexOf sib) (scaleOf sib)) := by
  rw [sibTerms, gpr32_eq_ofNat, indexTerm_eq_ofNat, BitVec.ofNat_add]

theorem sext8to32_eq_ofNat {disp : List Byte} (h : disp.length = 1) :
    sext8to32 (BitVec.ofNat 8 (leValue disp)) = BitVec.ofNat 32 (sext 32 (leValue disp)) := by
  have hbyte : leValue disp < 256 := by simpa only [h, pow_one] using leValue_lt disp
  rw [sext8to32, ← signExtend_byte_toNat (by decide) hbyte, BitVec.ofNat_toNat, BitVec.setWidth_eq]

theorem memoryAt_congr {s : State} {dflt : Seg} {m n : Nat} (h : m ≡ n [MOD 2 ^ 32]) :
    memoryAt s dflt m = memoryAt s dflt n := by
  have hword : BitVec.ofNat 32 m = BitVec.ofNat 32 n := by
    apply BitVec.eq_of_toNat_eq
    rw [BitVec.toNat_ofNat, BitVec.toNat_ofNat]
    exact h
  rw [memoryAt, memoryAt, BitVec.ofNat_add, BitVec.ofNat_add, hword]

theorem memLocation_ofNat (s : State) (dflt : Seg) (n : Nat) :
    s.memLocation dflt (BitVec.ofNat 32 n) = memoryAt s dflt n := by
  rw [memLocation_eq_memoryAt, BitVec.toNat_ofNat]
  exact memoryAt_congr (Nat.mod_modEq n _)

/-! ### The classes of SIB form (R183 to R190) -/

/-- A class of SIB form from the location its bytes complete an escape with. -/
theorem sibRule_intro {mod : BitVec 2} {dispLen : Nat} {admits : RegIdx → RegIdx → Prop} {dflt : State → RegIdx → Seg}
    {offset : State → RegIdx → RegIdx → BitVec 2 → Nat → Nat} (hmod : mod = 0 ∨ mod = 1 ∨ mod = 2)
    (hdispLen : ∀ base index, admits base index → sibDispLen mod base = dispLen)
    (hcompletes : ∀ sib disp, admits (baseOf sib) (indexOf sib) → disp.length = dispLen → ∃ loc,
      CompletesEscape mod sib disp loc ∧ ∀ s, loc s =
        memoryAt s (dflt s (baseOf sib)) (offset s (baseOf sib) (indexOf sib) (scaleOf sib) (leValue disp))) :
    sibRule mod dispLen admits dflt offset := by
  refine ⟨fun m sib base index disp rest hadmits hlen hmask => ?_, fun i f s hf hfmod hadmits hfits => ?_⟩
  · obtain ⟨hm, hrm, rfl, rfl⟩ := sib_fields_of_mask hmask
    rw [decodeSpecifier_true_of_sib sib _ hmod hm hrm]
    exact exists_decodeSib rest hmod hm (hlen.trans (hdispLen _ _ hadmits).symm)
  · subst hfmod
    obtain ⟨hscale, hindex, hbase⟩ := sibByte_fields f.scale f.index f.base
    have hlen : f.disp.length = dispLen := (sibForm_of_sibFields hf).disp_length.trans (hdispLen _ _ hadmits)
    obtain ⟨loc, hloc, hat⟩ := hcompletes (sibByte f.scale f.index f.base) f.disp (by rwa [hbase, hindex]) hlen
    rw [hloc.exec_of_sibFields hf, hlen, completeForm_resolved hfits, hat, hscale, hindex, hbase]

/-- A class within a class, its offset stated otherwise modulo 2^32. -/
theorem sibRule_restrict {mod : BitVec 2} {dispLen : Nat} {admits admits' : RegIdx → RegIdx → Prop}
    {dflt : State → RegIdx → Seg} {offset offset' : State → RegIdx → RegIdx → BitVec 2 → Nat → Nat}
    (h : sibRule mod dispLen admits dflt offset) (hadmits : ∀ base index, admits' base index → admits base index)
    (hoffset : ∀ s base index scale d, admits' base index →
      offset s base index scale d ≡ offset' s base index scale d [MOD 2 ^ 32]) :
    sibRule mod dispLen admits' dflt offset' := by
  obtain ⟨hdecode, hexec⟩ := h
  refine ⟨fun m sib base index disp rest hadm => hdecode m sib base index disp rest (hadmits _ _ hadm),
    fun i f s hf hmod hadm hfits => ?_⟩
  rw [hexec i f s hf hmod (hadmits _ _ hadm) hfits, memoryAt_congr (hoffset _ _ _ _ _ hadm)]

theorem sibM0_rule : sibRule 0 0 (fun base _ => base ≠ 5) baseSeg
    (fun s base index scale _ => r32 s base + sibTerm s index scale) := by
  refine sibRule_intro (.inl rfl) (fun _ _ h => if_neg h) fun sib disp hbase hlen => ?_
  obtain rfl := List.length_eq_zero_iff.mp hlen
  refine ⟨_, completesEscape_mod0_base hbase, fun s => ?_⟩
  rw [sibTerms_eq_ofNat, memLocation_ofNat, sibBaseSeg_eq_baseSeg]

theorem sibM0B5_rule : sibRule 0 4 (fun base _ => base = 5) (fun _ _ => .ds)
    (fun s _ index scale d => d + sibTerm s index scale) := by
  refine sibRule_intro (.inl rfl) (fun _ _ h => if_pos h) fun sib disp hbase hlen => ?_
  refine ⟨_, completesEscape_mod0_noBase hbase hlen, fun s => ?_⟩
  rw [indexTerm_eq_ofNat, ← BitVec.ofNat_add, memLocation_ofNat]

theorem sibM1_rule : sibRule 1 1 (fun _ _ => True) baseSeg
    (fun s base index scale d => r32 s base + sibTerm s index scale + sext 32 d) := by
  refine sibRule_intro (.inr (.inl rfl)) (fun _ _ _ => rfl) fun sib disp _ hlen => ?_
  refine ⟨_, completesEscape_mod1 hlen, fun s => ?_⟩
  rw [sibTerms_eq_ofNat, sext8to32_eq_ofNat hlen, ← BitVec.ofNat_add, memLocation_ofNat, sibBaseSeg_eq_baseSeg]

theorem sibM2_rule : sibRule 2 4 (fun _ _ => True) baseSeg
    (fun s base index scale d => r32 s base + sibTerm s index scale + d) := by
  refine sibRule_intro (.inr (.inr rfl)) (fun _ _ _ => rfl) fun sib disp _ hlen => ?_
  refine ⟨_, completesEscape_mod2 hlen, fun s => ?_⟩
  rw [sibTerms_eq_ofNat, ← BitVec.ofNat_add, memLocation_ofNat, sibBaseSeg_eq_baseSeg]

/-- The number 4 is no index register (R181). -/
theorem sibTerm_of_none {index : RegIdx} (h : index = 4) (s : State) (scale : BitVec 2) : sibTerm s index scale = 0 :=
  if_pos h

theorem sibTerm_modEq {index : RegIdx} (h : index ≠ 4) (s : State) (scale : BitVec 2) :
    sibTerm s index scale ≡ r32 s index * 2 ^ scale.toNat [MOD 2 ^ 32] := by
  rw [sibTerm, if_neg h]
  exact Nat.mod_modEq _ _

/-- Settles O9: base plus index term, which is nothing for index 4 and the shifted register for any other. -/
theorem sibMod0WithBase : Obligations.SibMod0WithBase := by
  refine ⟨sibRule_restrict sibM0_rule (fun _ _ h => h.1) fun s base index scale d h => ?_,
    sibRule_restrict sibM0_rule (fun _ _ h => h.1) fun s base index scale d h => ?_⟩
  · rw [sibTerm_of_none h.2, Nat.add_zero]
  · exact ((sibTerm_modEq h.2 s scale).add_left _).trans (Nat.mod_modEq _ _).symm

/-- Settles O10: the displacement in the place of the base. -/
theorem sibMod0WithoutBase : Obligations.SibMod0WithoutBase := by
  refine ⟨sibRule_restrict sibM0B5_rule (fun _ _ h => h.1) fun s base index scale d h => ?_,
    sibRule_restrict sibM0B5_rule (fun _ _ h => h.1) fun s base index scale d h => ?_⟩
  · rw [sibTerm_of_none h.2, Nat.add_zero]
  · exact ((sibTerm_modEq h.2 s scale).add_left _).trans (Nat.mod_modEq _ _).symm

/-- Settles O11: the sign-extended displacement byte joins base and index term. -/
theorem sibMod1 : Obligations.SibMod1 := by
  refine ⟨sibRule_restrict sibM1_rule (fun _ _ _ => trivial) fun s base index scale d h => ?_,
    sibRule_restrict sibM1_rule (fun _ _ _ => trivial) fun s base index scale d h => ?_⟩
  · rw [sibTerm_of_none h, Nat.add_zero]
    exact (Nat.mod_modEq _ _).symm
  · exact (((sibTerm_modEq h s scale).add_left _).add_right _).trans (Nat.mod_modEq _ _).symm

/-- Settles O12: the 32-bit displacement joins base and index term. -/
theorem sibMod2 : Obligations.SibMod2 := by
  refine ⟨sibRule_restrict sibM2_rule (fun _ _ _ => trivial) fun s base index scale d h => ?_,
    sibRule_restrict sibM2_rule (fun _ _ _ => trivial) fun s base index scale d h => ?_⟩
  · rw [sibTerm_of_none h, Nat.add_zero]
    exact (Nat.mod_modEq _ _).symm
  · exact (((sibTerm_modEq h s scale).add_left _).add_right _).trans (Nat.mod_modEq _ _).symm

end Sys2Proof.Machine

/-! PROOFS. Segment selection and the linear address (43_segment_linear.md): what a pending override changes of a resolved
location, and the operands whose offset is their value or stands in the instruction stream. -/

namespace Sys2Proof.Machine

open Sys2Proof.Claims

/-! ### Consuming bytes under an update of the state -/

/-- An update that neither reads nor writes window and cursor. -/
structure KeepsWindow (u : State → State) : Prop where
  win : ∀ s, (u s).win = s.win
  cursor : ∀ s, (u s).cursor = s.cursor
  setCursor : ∀ s c, (u s).setCursor c = u (s.setCursor c)

section

variable {u : State → State} (hu : KeepsWindow u)

include hu

theorem KeepsWindow.commutes_fetch8 : Commutes u fetch8 := by
  intro s
  unfold fetch8
  rw [hu.win, hu.cursor, hu.setCursor]
  cases s.win[s.cursor]? <;> rfl

theorem KeepsWindow.commutes_fetch16 : Commutes u fetch16 :=
  hu.commutes_fetch8.bind fun _ => hu.commutes_fetch8.bind fun _ _ => rfl

theorem KeepsWindow.commutes_fetch32 : Commutes u fetch32 :=
  hu.commutes_fetch16.bind fun _ => hu.commutes_fetch16.bind fun _ _ => rfl

theorem KeepsWindow.commutes_skipBytes (n : Nat) : Commutes u (skipBytes n) := by
  intro s
  unfold skipBytes
  rw [hu.cursor, hu.setCursor]
  split_ifs <;> rfl

theorem KeepsWindow.commutes_addDisp16 (mod : BitVec 2) (sum : BitVec 16) : Commutes u (addDisp16 mod sum) :=
  .ite (fun _ => Iff.rfl) (hu.commutes_fetch8.bind fun _ _ => rfl)
    (.ite (fun _ => Iff.rfl) (hu.commutes_fetch16.bind fun _ _ => rfl) fun _ => rfl)

theorem KeepsWindow.commutes_addDisp32 (mod : BitVec 2) (sum : Word) : Commutes u (addDisp32 mod sum) :=
  .ite (fun _ => Iff.rfl) (hu.commutes_fetch8.bind fun _ _ => rfl)
    (.ite (fun _ => Iff.rfl) (hu.commutes_fetch32.bind fun _ _ => rfl) fun _ => rfl)

end

/-! ### A pending override replaces the segment (R212) -/

/-- The location at the same offset in segment `g`; a register location has no segment (R213). -/
def Location.inSeg (g : Seg) (s : State) : Location → Location
  | .register i => .register i
  | .memory _ offset _ => .memory g offset (s.linear g offset)

/-- The same answer, with override `g` pending and its location in `g`. -/
def Res.inSeg (g : Seg) : Res (Location × RegIdx) → Res (Location × RegIdx)
  | .ok (loc, reg) s => .ok (loc.inSeg g s, reg) (s.setOverride (some g))
  | .pageFault x kind s => .pageFault x kind (s.setOverride (some g))
  | .fault f => .fault f
  | .refused r => .refused r

/-- With override `g` pending the operation does the same but for its location, which lies in `g`. -/
def Rebases (g : Seg) (f : State → Res (Location × RegIdx)) : Prop := ∀ s, f (s.setOverride (some g)) = (f s).inSeg g

theorem Rebases.bind {α : Type} {g : Seg} {f : State → Res α} {k : α → State → Res (Location × RegIdx)}
    (hf : Commutes (·.setOverride (some g)) f) (hk : ∀ a, Rebases g (k a)) : Rebases g fun s => (f s).bind k := by
  intro s
  show (f (s.setOverride (some g))).bind k = ((f s).bind k).inSeg g
  rw [hf s]
  cases f s with
  | ok a t => exact hk a t
  | pageFault | fault | refused => rfl

theorem Rebases.ite {g : Seg} {c : State → Prop} [∀ s, Decidable (c s)] {f k : State → Res (Location × RegIdx)}
    (hc : ∀ s, c (s.setOverride (some g)) ↔ c s) (hf : Rebases g f) (hk : Rebases g k) :
    Rebases g fun s => if c s then f s else k s := by
  intro s
  by_cases h : c s
  · simpa only [hc, h, if_true] using hf s
  · simpa only [hc, h, if_false] using hk s

section

variable (g : Seg)

theorem setOverride_keepsWindow : KeepsWindow (·.setOverride (some g)) := ⟨fun _ => rfl, fun _ => rfl, fun _ _ => rfl⟩

theorem resolve16_rebases : Rebases g resolve16 :=
  have hu := setOverride_keepsWindow g
  .bind hu.commutes_fetch8 fun _ => .ite (fun _ => Iff.rfl) (fun _ => rfl)
    (.ite (fun _ => Iff.rfl) (.bind hu.commutes_fetch16 fun _ _ => rfl)
      fun s => (Rebases.bind (hu.commutes_addDisp16 _ _) fun _ _ => rfl) s)

theorem resolveSib_commutes_setOverride (mod : BitVec 2) : Commutes (·.setOverride (some g)) (resolveSib mod) :=
  have hu := setOverride_keepsWindow g
  hu.commutes_fetch8.bind fun sib s =>
    (Commutes.ite (c := fun _ => baseOf sib = 5 ∧ mod = 0) (fun _ => Iff.rfl)
      (hu.commutes_fetch32.bind fun _ _ => rfl) fun _ => rfl) s

theorem resolveEscape_rebases (mod : BitVec 2) (reg : RegIdx) : Rebases g (resolveEscape mod reg) :=
  .bind (resolveSib_commutes_setOverride g mod) fun _ =>
    .bind ((setOverride_keepsWindow g).commutes_addDisp32 _ _) fun _ _ => rfl

theorem resolve32_rebases : Rebases g resolve32 :=
  have hu := setOverride_keepsWindow g
  .bind hu.commutes_fetch8 fun _ => .ite (fun _ => Iff.rfl) (fun _ => rfl)
    (.ite (fun _ => Iff.rfl) (resolveEscape_rebases g _ _)
      (.ite (fun _ => Iff.rfl) (.bind hu.commutes_fetch32 fun _ _ => rfl)
        fun s => (Rebases.bind (hu.commutes_addDisp32 _ _) fun _ _ => rfl) s))

theorem resolve_rebases : Rebases g resolve := .ite (fun _ => Iff.rfl) (resolve32_rebases g) (resolve16_rebases g)

end

/-- An instruction that answers the location operation `f` finds; an override changes only the segment of it. -/
structure Locates (i : Instr) (f : State → Res (Location × RegIdx)) : Prop where
  exec_eq : ∀ s, exec i s = answerLocation (f s)
  rebases : ∀ g, Rebases g f
  keepsContext : ∀ s, (f s).Ends (SameContext s) (SameContext s)

/-- A form of `len` bytes, as an operation that finds its location. -/
def formLocation (len : Nat) (loc : State → Location) (reg : RegIdx) (s : State) : Res (Location × RegIdx) :=
  (skipBytes len s).bind fun _ t => .ok (loc s, reg) t

theorem locates_form {i : Instr} {len : Nat} {loc : State → Location} {reg : RegIdx}
    (hexec : ∀ s, exec i s = completeForm len (loc s) reg s)
    (hloc : ∀ g s, loc (s.setOverride (some g)) = (loc s).inSeg g s) : Locates i (formLocation len loc reg) where
  exec_eq s := by
    rw [hexec, completeForm, formLocation]
    cases skipBytes len s <;> rfl
  rebases g s := by
    have hskip : skipBytes len (s.setOverride (some g)) = (skipBytes len s).mapState (·.setOverride (some g)) :=
      (setOverride_keepsWindow g).commutes_skipBytes len s
    rw [formLocation, formLocation, hskip, hloc]
    rcases skipBytes_onlyAdvances (n := len) s with h | h <;> rw [h] <;> rfl
  keepsContext s := (skipBytes_keepsContext (.refl s) len).bind fun _ _ hs => hs

theorem locates_escape {i : Instr} {mod : BitVec 2} {reg : RegIdx}
    (hexec : ∀ s, exec i s = answerLocation ((skipBytes 1 s).bind fun _ t => resolveEscape mod reg t)) :
    Locates i fun s => (skipBytes 1 s).bind fun _ t => resolveEscape mod reg t where
  exec_eq := hexec
  rebases g := .bind ((setOverride_keepsWindow g).commutes_skipBytes 1) fun _ => resolveEscape_rebases g mod reg
  keepsContext s := (skipBytes_keepsContext (.refl s) 1).bind fun _ _ hs =>
    OnlyConsumes.keepsContext hs (resolveEscape_onlyConsumes mod reg)

theorem locates_resolve : Locates .resolve resolve where
  exec_eq _ := rfl
  rebases g := resolve_rebases g
  keepsContext s := OnlyConsumes.keepsContext (.refl s) resolve_onlyConsumes

theorem exists_locates {i : Instr} (hi : resolves i) : ∃ f, Locates i f := by
  cases i
  case a32SibM0 | a32SibM1 | a32SibM2 => exact ⟨_, locates_escape fun _ => rfl⟩
  case resolve => exact ⟨_, locates_resolve⟩
  case prefixEs | prefixCs | prefixSs | prefixDs | prefixFs | prefixGs | prefixOpsize | prefixAddrsize | translate |
      memRead | memWrite | fetchWindow | writePdBase | flushCache | setA20 | reset =>
    obtain hm | hs | ⟨⟨⟩⟩ := hi
    · exact absurd rfl hm
    · exact absurd rfl hs
  all_goals exact ⟨_, locates_form (fun _ => rfl) fun _ _ => rfl⟩

/-- Settles O14: the instruction answers the location an operation finds that an override only rebases; bases stay. -/
theorem overrideChangesOnlyTheBase : Obligations.OverrideChangesOnlyTheBase := by
  intro i g seg offset linear reg s t hi h hout
  obtain ⟨f, hf⟩ := exists_locates hi
  change exec i (s.setOverride none) = .next t at h
  change exec i ((s.setOverride none).setOverride (some g)) = _
  rw [hf.exec_eq] at h
  obtain ⟨⟨loc, reg'⟩, u, hu, rfl⟩ | ⟨_, _, _, -, rfl⟩ := Res.toOutcome_eq_next h
  · cases hout
    have hbase : u.segBase = s.segBase := ((hf.keepsContext _).of_eq_ok hu).segBase
    rw [hf.exec_eq, hf.rebases, hu, State.baseOf, ← hbase]
    rfl
  · cases hout

/-! ### Memory-offset operands (R219) -/

theorem fetch16_of_append {s : State} {disp left : List Byte} (hlen : disp.length = 2)
    (h : s.win.drop s.cursor = disp ++ left) :
    fetch16 s = .ok (BitVec.ofNat 16 (leValue disp)) (s.setCursor (s.cursor + 2)) := by
  obtain ⟨a, b, rfl⟩ := List.length_eq_two.mp hlen
  rw [ofNat_leValue_two, fetch16_of_drop h]

/-- Two little-endian bytes, zero-extended to an offset (R120, R219). -/
theorem zext16_ofNat_leValue {disp : List Byte} (hlen : disp.length = 2) :
    zext16 (BitVec.ofNat 16 (leValue disp)) = BitVec.ofNat 32 (leValue disp) := by
  have hlt : leValue disp < 256 ^ disp.length := leValue_lt disp
  rw [hlen] at hlt
  exact BitVec.setWidth_ofNat_of_le_of_lt (by decide) hlt

/-- Settles O48: the immediate is fetched as wide as the address size, and its number is the offset. -/
theorem memoryOffsetOperand : Obligations.MemoryOffsetOperand := by
  intro s w dir disp rest hdrop hlen
  by_cases h32 : s.addressSize32 = true
  · rw [if_pos h32] at hlen
    rw [locate, if_pos h32, fetch32_of_append hlen hdrop, Res.bind_ok, memLocation_ofNat, hlen]
    rfl
  · rw [if_neg h32] at hlen
    rw [locate, if_neg h32, fetch16_of_append hlen hdrop, Res.bind_ok, zext16_ofNat_leValue hlen, memLocation_ofNat, hlen]
    rfl

/-! ### The handler's part of a cycle (R42, R250, R252, R254, R262, R263) -/

theorem runMaintenance_eq {op : MaintenanceOp} (hop : ∀ b, op = .writePdBase b → b.toNat % 4096 = 0) (s : State) :
    runMaintenance op s = .ok () (afterMaintenance s op) := by
  cases op with
  | writePdBase b => exact if_pos ((aligned_iff b).mpr (hop b rfl))
  | flushCache | setA20 => rfl

theorem runMaintenances_eq {ops : List MaintenanceOp} (hops : ∀ b, .writePdBase b ∈ ops → b.toNat % 4096 = 0)
    (s : State) : runMaintenances ops s = .ok () (ops.foldl afterMaintenance s) := by
  induction ops generalizing s with
  | nil => rfl
  | cons op ops ih =>
    rw [runMaintenances, runMaintenance_eq fun b hb => hops b (hb ▸ .head _), Res.bind_ok]
    exact ih (fun b hb => hops b (.tail _ hb)) _

theorem foldl_afterMaintenance_gpr (ops : List MaintenanceOp) (s : State) : (ops.foldl afterMaintenance s).gpr = s.gpr := by
  induction ops generalizing s with
  | nil => rfl
  | cons op ops ih =>
    rw [List.foldl_cons, ih]
    cases op <;> rfl

theorem foldl_setGpr32 (ws : List (RegIdx × Word)) (s : State) : ws.foldl (fun t w => t.setGpr32 w.1 w.2) s =
    { s with gpr := ws.foldl (fun g p => g.set p.1.toFin.val p.2 p.1.toFin.isLt) s.gpr } := by
  induction ws generalizing s with
  | nil => rfl
  | cons w ws ih => exact ih (s.setGpr32 w.1 w.2)

theorem applyWrites_eq (h : HandlerAnswer) (s : State) : applyWrites h s =
    { s with gpr := h.gprWrites.foldl (fun g p => g.set p.1.toFin.val p.2 p.1.toFin.isLt) s.gpr, flags := h.flags } := by
  rw [applyWrites, foldl_setGpr32]
  rfl

/-- With aligned directory bases the handler completes, and leaves what the statements say. -/
theorem applyHandler_eq {h : HandlerAnswer} (hbases : basesAligned h) (s : State) :
    applyHandler h s = .ok () (afterHandler h s) := by
  rw [applyHandler, runMaintenances_eq hbases, Res.bind_ok, applyWrites_eq, foldl_afterMaintenance_gpr]
  rfl

theorem afterHandler_sameContext {h : HandlerAnswer} (hbases : basesAligned h) (s : State) :
    SameContext s (afterHandler h s) :=
  (applyHandler_keepsContext (.refl s) h).of_eq_ok (applyHandler_eq hbases s)

/-! ### The dispatch of a fetched opcode (R37, R273, R274) -/

theorem runCycle_of_opcode {a : DispatchAnswer} {s t : State} {win : List Byte}
    (hfetch : fetchWindow (fetchAddress s) s = .ok win t) (hopcode : ∀ i left, decodePrefix win ≠ .ok i left) :
    runCycle a s = dispatchOpcode a t := by
  obtain ⟨-, u, -, -, rfl⟩ := fetchWindow_ok hfetch
  obtain ⟨e, he⟩ : ∃ e, decodePrefix (u.setWindow win).win = .reject e := by
    cases hdecode : decodePrefix (u.setWindow win).win with
    | ok i left => exact absurd hdecode (hopcode i left)
    | reject e => exact ⟨e, rfl⟩
  simp only [runCycle, hfetch, he]

theorem step_of_fetched {s t : State} {answer : DispatchAnswer} {rest : List Request} {win : List Byte}
    (h : fetched s answer rest win t) : step s = dispatchOpcode answer t := by
  obtain ⟨hreq, hfetch, hopcode⟩ := h
  rw [step_of_request hreq]
  exact runCycle_of_opcode (s := s.setRequests rest) hfetch hopcode

theorem fetched_sameContext {s t : State} {answer : DispatchAnswer} {rest : List Request} {win : List Byte}
    (h : fetched s answer rest win t) : SameContext { s with requests := rest } t :=
  (fetchWindow_keepsContext _ _).of_eq_ok h.2.1

theorem fetched_cursor {s t : State} {answer : DispatchAnswer} {rest : List Request} {win : List Byte}
    (h : fetched s answer rest win t) : t.cursor = 0 := by
  obtain ⟨-, u, -, -, rfl⟩ := fetchWindow_ok h.2.1
  rfl

theorem slotIndex_val (s : State) : (slotIndex s).val = slotNumber s := by
  unfold slotIndex slotNumber
  cases s.addressSize32 <;> cases s.operandSize32 <;> rfl

/-- The procedure of the active slot runs, and the values it handed out are the answer. -/
theorem step_of_dispatches {s t : State} {d : Descriptor} {h : HandlerAnswer} {rest : List Request} {win : List Byte}
    (hd : dispatches s d h rest win t) :
    step s = (runInstruction d h t).toOutcome fun values u => u.setOut (.operands values) := by
  obtain ⟨procedures, hfetched, hslot⟩ := hd
  have hcontext := fetched_sameContext hfetched
  have hnumber : slotNumber s = (slotIndex t).val := by
    rw [slotIndex_val, slotNumber, slotNumber, hcontext.addressSize32, hcontext.operandSize32]
  have hproc : procedures.get (slotIndex t) = some d := by
    rw [hnumber, Vector.getElem?_eq_getElem (slotIndex t).isLt] at hslot
    exact Option.some.inj hslot
  rw [step_of_fetched hfetched, dispatchOpcode, hproc]

/-! ### Effective-address-only operands (R218) -/

/-- An operand kind that does not allow the location found stops the instruction there (R261, R272). -/
theorem runInstruction_of_checkOperand_fault {d : Descriptor} {h : HandlerAnswer} {s u : State} {f : Fault}
    {loc : Option (Location × RegIdx)} (hfits : s.cursor + d.opcodeLen ≤ windowLen)
    (hloc : locate d.specifier (s.setCursor (s.cursor + d.opcodeLen)) = .ok loc u)
    (hcheck : checkOperand (rmOperand d.specifier) loc u = .fault f) : runInstruction d h s = .fault f := by
  rw [runInstruction, skipBytes_eq hfits, Res.bind_ok, hloc, Res.bind_ok, hcheck, Res.bind_fault]

theorem locate_full {w : RegWidth} {dir : Direction} {rm : RmOperand} {s u : State} {a : Location × RegIdx}
    (hres : resolve s = .ok a u) : locate (.full w dir rm) s = .ok (some a) u := by
  rw [locate, hres, Res.bind_ok]

/-- An instruction whose reg-field operand takes the address of its r/m operand and which has no other operand. -/
def loadsAddress (opcodeLen : Nat) (regW : RegWidth) : Descriptor :=
  { opcodeLen := opcodeLen, fixed := [], implicit := [], specifier := .full regW .output .effectiveAddress, immediates := [] }

section

variable {opcodeLen : Nat} {regW : RegWidth} {h : HandlerAnswer} {s u : State} {reg : RegIdx}
  (hfits : s.cursor + opcodeLen ≤ windowLen)

include hfits

/-- A memory form hands its offset to the handler; between resolve and epilog only handler and reg-field operand write. -/
theorem runInstruction_loadsAddress_memory {seg : Seg} {offset linear : Word} (hbases : basesAligned h)
    (hres : resolve (s.setCursor (s.cursor + opcodeLen)) = .ok (.memory seg offset linear, reg) u) :
    runInstruction (loadsAddress opcodeLen regW) h s =
      .ok { fixed := [], implicit := [], reg := none, rm := some offset.toNat, immediates := [] }
        (epilog (writeReg regW reg h.reg (afterHandler h u)).advanceIp) := by
  rw [runInstruction, loadsAddress, skipBytes_eq hfits, Res.bind_ok, locate_full hres]
  show (applyHandler h u).bind _ = _
  rw [applyHandler_eq hbases]
  rfl

theorem runInstruction_loadsAddress_register {i : RegIdx}
    (hres : resolve (s.setCursor (s.cursor + opcodeLen)) = .ok (.register i, reg) u) :
    runInstruction (loadsAddress opcodeLen regW) h s = .fault .addressingFault :=
  runInstruction_of_checkOperand_fault hfits (locate_full hres) rfl

end

theorem retired_eq {t : State} {ipStart : Word} (hip : t.ip = ipStart) (values : OperandValues) :
    retired t ipStart values = (epilog t.advanceIp).setOut (.operands values) := by
  subst hip
  rfl

/-- Settles O47: nothing but the resolve and the handler comes between the fetch and the epilog, and IP stays till then; a
register form stops at the check. -/
theorem effectiveAddressOperand : Obligations.EffectiveAddressOperand := by
  rintro s t u ⟨opcodeLen, _, _, _, _⟩ h rest win regW loc reg hd hlen rfl rfl rfl rfl hbases hres
  have ⟨_, hfetched, _⟩ := hd
  have hcursor : t.cursor + opcodeLen = opcodeLen := by rw [fetched_cursor hfetched, Nat.zero_add]
  have hfits : t.cursor + opcodeLen ≤ windowLen := hcursor.le.trans hlen
  change resolve (t.setCursor opcodeLen) = _ at hres
  rw [← hcursor] at hres
  rw [step_of_dispatches hd]
  refine ⟨?_, ?_⟩
  · rintro seg offset linear rfl
    have hopcode : SameContext { s with requests := rest } (t.setCursor (t.cursor + opcodeLen)) :=
      (skipBytes_keepsContext (fetched_sameContext hfetched) opcodeLen).of_eq_ok (skipBytes_eq hfits)
    have hresolved : SameContext { s with requests := rest } u :=
      (OnlyConsumes.keepsContext hopcode resolve_onlyConsumes).of_eq_ok hres
    have hip : (writeReg regW reg h.reg (afterHandler h u)).ip = s.ip := by
      obtain ⟨g, hg⟩ := writeReg_frame regW reg h.reg (afterHandler h u)
      rw [hg]
      exact (hresolved.trans (afterHandler_sameContext hbases u)).ip
    rw [retired_eq hip]
    exact congrArg (Res.toOutcome · _) (runInstruction_loadsAddress_memory hfits hbases hres)
  · rintro i rfl
    exact congrArg (Res.toOutcome · _) (runInstruction_loadsAddress_register hfits hres)

end Sys2Proof.Machine

/-! PROOFS. `Translate` (44_translate.md): what it answers with paging disabled, on a cache hit, and at the end of a walk; and
that neither it nor an access sees the A20 mask while paging is enabled. -/

namespace Sys2Proof.Machine

open Sys2Proof.Claims

/-! ### Addresses and entries as numbers -/

/-- The mask of the disabled A20 gate leaves L[19:0] (R227). -/
theorem and_disabledMask (l : Word) : l &&& 0x000FFFFF#32 = BitVec.ofNat 32 (l.toNat % 2 ^ 20) := by
  have hlow : (l &&& 0x000FFFFF#32).toNat = l.toNat % 2 ^ 20 :=
    (BitVec.toNat_and l _).trans (Nat.and_two_pow_sub_one_eq_mod l.toNat 20)
  rw [← hlow, BitVec.ofNat_toNat, BitVec.setWidth_eq]

/-- The sum of `or_pageOffset_eq_add`, taken of numbers (R229, R236). -/
theorem or_pageOffset_eq_ofNat {b : Word} (l : Word) (hb : b.toNat % 4096 = 0) :
    b ||| pageOffset l = BitVec.ofNat 32 (b.toNat + l.toNat % 4096) := by
  rw [or_pageOffset_eq_add l ((aligned_iff b).mpr hb), BitVec.ofNat_add, BitVec.ofNat_toNat, BitVec.setWidth_eq]

/-- The bits of an entry below its base are dropped (R234). -/
theorem entryBase_eq_ofNat (e : Word) : entryBase e = BitVec.ofNat 32 (e.toNat / 4096 * 4096) := by
  rw [← entryBase_toNat, BitVec.ofNat_toNat, BitVec.setWidth_eq]

theorem toNat_ofNat_entryAt (s : State) (a : Nat) : (BitVec.ofNat 32 (entryAt s a)).toNat = entryAt s a :=
  Nat.mod_eq_of_lt (entryAt_lt s a)

theorem entryPresent_of_even {e : Word} (h : e.toNat % 2 = 0) : entryPresent e = false := by
  rw [entryPresent, BitVec.getLsbD, Nat.testBit_zero, h]
  rfl

/-! ### The three ways of Translate -/

section

variable {s : State} {l : Word} {kind : AccessKind}

theorem translate_of_hit {base : Word} (hpaged : s.pdBase ≠ 0)
    (hhit : Tcache.find? s.tcache (pageNumber l) = some base) : translate l kind s = .ok (base ||| pageOffset l) s := by
  rw [translate, if_neg hpaged, hhit]

theorem translate_of_miss (hpaged : s.pdBase ≠ 0) (hmiss : Tcache.find? s.tcache (pageNumber l) = none) :
    translate l kind s = walk l kind s := by
  rw [translate, if_neg hpaged, hmiss]

/-! ### The walk, by what its entries are (R230 to R234) -/

/-- The first read of a walk, already counted. -/
theorem readEntry_directory (haligned : s.pdBase.toNat % 4096 = 0) (hdir : pdeAddress s l + 4 ≤ s.cfg.physSize) :
    readEntry (s.pdBase + dirIndex l * 4) s.countWalk =
      .ok (BitVec.ofNat 32 (entryAt s (pdeAddress s l))) s.countWalk := by
  rw [← pdeAddress_toNat l haligned] at hdir ⊢
  exact readEntry_eq (s := s.countWalk) hdir

/-- The second read of a walk, given the number the first one gave. -/
theorem readEntry_table (a : Nat) (htable : pteAddress (entryAt s a) l + 4 ≤ s.cfg.physSize) :
    readEntry (entryBase (BitVec.ofNat 32 (entryAt s a)) + tableIndex l * 4) s.countWalk =
      .ok (BitVec.ofNat 32 (entryAt s (pteAddress (entryAt s a) l))) s.countWalk := by
  have haddr : (entryBase (BitVec.ofNat 32 (entryAt s a)) + tableIndex l * 4).toNat = pteAddress (entryAt s a) l := by
    rw [pteAddress_toNat, toNat_ofNat_entryAt]
  rw [← haddr] at htable ⊢
  exact readEntry_eq (s := s.countWalk) htable

section

variable (haligned : s.pdBase.toNat % 4096 = 0) (hdir : pdeAddress s l + 4 ≤ s.cfg.physSize)

include haligned hdir

theorem walk_of_directory_absent (hpde : entryAt s (pdeAddress s l) % 2 = 0) :
    walk l kind s = .pageFault l kind s.countWalk := by
  rw [walk, readEntry_directory haligned hdir, Res.bind_ok,
    entryPresent_of_even (by rwa [toNat_ofNat_entryAt]), if_neg Bool.false_ne_true]

variable (hpde : entryAt s (pdeAddress s l) % 2 = 1)
  (htable : pteAddress (entryAt s (pdeAddress s l)) l + 4 ≤ s.cfg.physSize)

include hpde htable

theorem walk_of_table_absent (hpte : entryAt s (pteAddress (entryAt s (pdeAddress s l)) l) % 2 = 0) :
    walk l kind s = .pageFault l kind s.countWalk := by
  rw [walk, readEntry_directory haligned hdir, Res.bind_ok,
    if_pos (entryPresent_of_odd (by rwa [toNat_ofNat_entryAt])), readEntry_table _ htable, Res.bind_ok,
    entryPresent_of_even (by rwa [toNat_ofNat_entryAt]), if_neg Bool.false_ne_true]

theorem walk_of_present {pte : Nat} (heq : pte = entryAt s (pteAddress (entryAt s (pdeAddress s l)) l))
    (hpte : pte % 2 = 1) :
    walk l kind s = .ok (BitVec.ofNat 32 (pte / 4096 * 4096 + l.toNat % 4096))
      (s.countWalk.setTcache (Tcache.insert s.tcache (pageNumber l) (BitVec.ofNat 32 (pte / 4096 * 4096)))) := by
  have hnumber : (BitVec.ofNat 32 pte).toNat = pte := heq ▸ toNat_ofNat_entryAt s _
  have hanswer : entryBase (BitVec.ofNat 32 pte) ||| pageOffset l =
      BitVec.ofNat 32 (pte / 4096 * 4096 + l.toNat % 4096) := by
    rw [or_pageOffset_eq_ofNat l ((aligned_iff _).mp (entryBase_aligned _)), entryBase_toNat, hnumber]
  rw [walk, readEntry_directory haligned hdir, Res.bind_ok,
    if_pos (entryPresent_of_odd (by rwa [toNat_ofNat_entryAt])), readEntry_table _ htable, Res.bind_ok, ← heq,
    if_pos (entryPresent_of_odd (by rwa [hnumber])), hanswer, entryBase_eq_ofNat, hnumber]
  rfl

end

end

/-! ### Translate as an instruction -/

theorem execTranslate_of_unpaged {s : State} {p : Word} (hunpaged : s.pdBase = 0) (hp : s.args.linear &&& s.a20Mask = p) :
    exec .translate s = .next (s.setOut (.physical p)) := by
  show execTranslate s = _
  rw [execTranslate, translate, if_pos hunpaged, hp, Res.toOutcome_ok]

/-- Settles O23: the answer is `L & a20Mask`, and the two masks leave L[19:0] and all of L. -/
theorem translateUnpaged : Obligations.TranslateUnpaged := by
  intro s hunpaged
  refine ⟨fun hmask => execTranslate_of_unpaged hunpaged ?_, fun hmask => execTranslate_of_unpaged hunpaged ?_⟩
  · rw [hmask, and_disabledMask]
  · rw [hmask]
    exact BitVec.and_allOnes

/-- Settles O24: a hit answers from the cache alone. -/
theorem translateHit : Obligations.TranslateHit := by
  intro s base hpaged hhit
  refine ⟨?_, or_pageOffset_eq_ofNat s.args.linear⟩
  show execTranslate s = _
  rw [execTranslate, translate_of_hit hpaged hhit]
  rfl

/-- Settles O25: a miss walks, and the walk reads two present entries. -/
theorem translateWalk : Obligations.TranslateWalk := by
  rintro s _ pte hpaged haligned hmiss hdir rfl hpde htable heq hpte
  show execTranslate s = _
  rw [execTranslate, translate_of_miss hpaged hmiss, walk_of_present haligned hdir hpde htable heq hpte]
  rfl

/-- One `Translate` whose walk faults: counted, signalled, nothing else (R233, R237). -/
theorem execTranslate_of_absent {s : State} (hpaged : s.pdBase ≠ 0) (haligned : s.pdBase.toNat % 4096 = 0)
    (hmiss : Tcache.find? s.tcache (s.args.linear.toNat / 4096) = none)
    (hdir : pdeAddress s s.args.linear + 4 ≤ s.cfg.physSize)
    (habsent : entryAt s (pdeAddress s s.args.linear) % 2 = 0 ∨
      (pteAddress (entryAt s (pdeAddress s s.args.linear)) s.args.linear + 4 ≤ s.cfg.physSize ∧
        entryAt s (pteAddress (entryAt s (pdeAddress s s.args.linear)) s.args.linear) % 2 = 0)) :
    exec .translate s = .next (signalPageFault s.args.linear s.args.kind s.countWalk) := by
  have hwalk : walk s.args.linear s.args.kind s = .pageFault s.args.linear s.args.kind s.countWalk := by
    rcases Nat.mod_two_eq_zero_or_one (entryAt s (pdeAddress s s.args.linear)) with hpde | hpde
    · exact walk_of_directory_absent haligned hdir hpde
    · obtain ⟨htable, hpte⟩ := habsent.resolve_left (by omega)
      exact walk_of_table_absent haligned hdir hpde htable hpte
  show execTranslate s = _
  rw [execTranslate, translate_of_miss hpaged hmiss, hwalk, Res.toOutcome_pageFault]

/-- Settles O26: what the first `Translate` leaves has the same directory, tables and cache, so the second faults as well. -/
theorem translateFault : Obligations.TranslateFault := by
  rintro s _ hpaged haligned hmiss hdir rfl habsent
  exact ⟨execTranslate_of_absent hpaged haligned hmiss hdir habsent,
    execTranslate_of_absent (s := signalPageFault s.args.linear s.args.kind s.countWalk) hpaged haligned hmiss hdir habsent⟩

/-! ### Accesses under an update of the state -/

/-- An update that the parts of an access, its translations, loads and stores, neither read nor write. -/
structure UnseenByAccess (u : State → State) : Prop where
  translate : ∀ l kind, Commutes u (translate l kind)
  loadBytes : ∀ p n, Commutes u (loadBytes p n)
  storeBytes : ∀ p bs, Commutes u (storeBytes p bs)

section

variable {u : State → State} (hu : UnseenByAccess u)

include hu

theorem UnseenByAccess.commutes_readByteByByte (kind : AccessKind) (n : Nat) (l : Word) :
    Commutes u (readByteByByte kind n l) := by
  induction n generalizing l with
  | zero => exact fun _ => rfl
  | succ n ih =>
    exact (hu.translate l kind).bind fun p => (hu.loadBytes p 1).bind fun _ => (ih (l + 1)).bind fun _ _ => rfl

theorem UnseenByAccess.commutes_writeByteByByte (bs : List Byte) (l : Word) : Commutes u (writeByteByByte bs l) := by
  induction bs generalizing l with
  | nil => exact fun _ => rfl
  | cons b bs ih => exact (hu.translate l .write).bind fun p => (hu.storeBytes p [b]).bind fun _ => ih (l + 1)

theorem UnseenByAccess.commutes_memRead (l : Word) (n : Nat) (kind : AccessKind) : Commutes u (memRead l n kind) :=
  .ite (fun _ => Iff.rfl) (hu.commutes_readByteByByte kind n l) ((hu.translate l kind).bind fun p => hu.loadBytes p n)

theorem UnseenByAccess.commutes_memWrite (l : Word) (bs : List Byte) : Commutes u (memWrite l bs) :=
  .ite (fun _ => Iff.rfl) (hu.commutes_writeByteByByte bs l) ((hu.translate l .write).bind fun p => hu.storeBytes p bs)

end

/-- The step of an operation that commutes with `u`, where putting its result out or signalling PageFault does. -/
theorem Commutes.toOutcome_next {α : Type} {u : State → State} {f : State → Res α} {k : α → State → State} {s t : State}
    (hf : Commutes u f) (hk : ∀ a s, k a (u s) = u (k a s)) (hout : ∀ s o, (u s).setOut o = u (s.setOut o))
    (h : (f s).toOutcome k = .next t) : (f (u s)).toOutcome k = .next (u t) := by
  rw [hf s]
  obtain ⟨a, v, hv, rfl⟩ | ⟨x, kind, v, hv, rfl⟩ := Res.toOutcome_eq_next h
  · rw [hv]
    exact congrArg Host.Outcome.next (hk a v)
  · rw [hv]
    exact congrArg Host.Outcome.next (hout v _)

/-! ### The A20 mask while paging is enabled (R238) -/

/-- The state with `mask` for its A20 mask where paging is enabled, and as it is where paging is disabled: so the operations
commute with the update in every state. -/
def State.withPagedMask (mask : Word) (s : State) : State := s.setA20Mask (if s.pdBase = 0 then s.a20Mask else mask)

section

variable (mask : Word)

theorem State.withPagedMask_of_paged {s : State} (hpaged : s.pdBase ≠ 0) : s.withPagedMask mask = s.setA20Mask mask := by
  rw [State.withPagedMask, if_neg hpaged]

theorem State.withPagedMask_of_unpaged {s : State} (hunpaged : s.pdBase = 0) : s.withPagedMask mask = s := by
  rw [State.withPagedMask, if_pos hunpaged, State.setA20Mask]

theorem physRead_commutes_pagedMask (p : Word) (n : Nat) : Commutes (.withPagedMask mask) (physRead p n) :=
  .ite (fun _ => Iff.rfl) (fun _ => rfl) fun _ => rfl

theorem readEntry_commutes_pagedMask (a : Word) : Commutes (.withPagedMask mask) (readEntry a) :=
  (physRead_commutes_pagedMask mask a 4).bind fun _ _ => rfl

theorem walk_commutes_pagedMask (l : Word) (kind : AccessKind) : Commutes (.withPagedMask mask) (walk l kind) := by
  have htable (pde : Word) := readEntry_commutes_pagedMask mask (entryBase pde + tableIndex l * 4)
  intro s
  refine ((readEntry_commutes_pagedMask mask (s.pdBase + dirIndex l * 4)).bind fun pde => ?_) s.countWalk
  exact .ite (fun _ => Iff.rfl) ((htable pde).bind fun _ => .ite (fun _ => Iff.rfl) (fun _ => rfl) fun _ => rfl) fun _ => rfl

/-- With paging disabled the mask is not changed; with paging enabled neither cache hit nor walk looks at it. -/
theorem translate_commutes_pagedMask (l : Word) (kind : AccessKind) :
    Commutes (.withPagedMask mask) (translate l kind) := by
  intro s
  by_cases hbase : s.pdBase = 0
  · rw [State.withPagedMask_of_unpaged mask hbase, translate, if_pos hbase, Res.mapState,
      State.withPagedMask_of_unpaged mask hbase]
  · cases hfind : Tcache.find? s.tcache (pageNumber l) with
    | some base => rw [translate_of_hit hbase hfind, translate_of_hit (s := s.withPagedMask mask) hbase hfind, Res.mapState]
    | none =>
      rw [translate_of_miss hbase hfind, translate_of_miss (s := s.withPagedMask mask) hbase hfind]
      exact walk_commutes_pagedMask mask l kind s

theorem withPagedMask_unseenByAccess : UnseenByAccess (.withPagedMask mask) where
  translate := translate_commutes_pagedMask mask
  loadBytes p n := .ite (fun _ => Iff.rfl) (fun _ => rfl) (physRead_commutes_pagedMask mask p n)
  storeBytes _ _ := .ite (fun _ => Iff.rfl) (fun _ => rfl) (.ite (fun _ => Iff.rfl) (fun _ => rfl) fun _ => rfl)

end

/-- Settles O28: the four operations commute with `withPagedMask`, and none of them enables or disables paging. -/
theorem a20WithoutEffectWhilePaging : Obligations.A20WithoutEffectWhilePaging := by
  intro i s t mask hi hpaged h
  have hu := withPagedMask_unseenByAccess mask
  have hmasked : exec i (s.withPagedMask mask) = .next (t.withPagedMask mask) := by
    rcases hi with rfl | rfl | rfl | rfl
    · exact (hu.translate _ _).toOutcome_next (fun _ _ => rfl) (fun _ _ => rfl) h
    · exact (hu.commutes_memRead _ _ _).toOutcome_next (fun _ _ => rfl) (fun _ _ => rfl) h
    · exact (hu.commutes_memWrite _ _).toOutcome_next (fun _ _ => rfl) (fun _ _ => rfl) h
    · have hfetch : Commutes (.withPagedMask mask) (fetchWindow s.args.linear) := (hu.commutes_memRead _ _ _).bind fun _ _ => rfl
      exact hfetch.toOutcome_next (fun _ _ => rfl) (fun _ _ => rfl) h
  have hbase : t.pdBase = s.pdBase := by
    rcases hi with rfl | rfl | rfl | rfl <;> cases exec_mayLeave h <;> rfl
  rw [State.withPagedMask_of_paged mask hpaged, State.withPagedMask_of_paged mask (hbase ▸ hpaged)] at hmasked
  exact hmasked

end Sys2Proof.Machine

/-! PROOFS. The three maintenance operations as port operations (45_port_ops.md R250, R252, R254). -/

namespace Sys2Proof.Machine

/-- Settles O36: a multiple of 4096 passes the test of the low bits, whatever base was there. -/
theorem writePdBaseClearsCache : Obligations.WritePdBaseClearsCache := by
  intro s hlt haligned
  have hlow : (BitVec.ofNat 32 s.args.value).toNat % 4096 = 0 := by
    rw [BitVec.toNat_ofNat, Nat.mod_eq_of_lt hlt, haligned]
  have hwrite : writePdBase (BitVec.ofNat 32 s.args.value) s =
      .ok () ((s.setPdBase (BitVec.ofNat 32 s.args.value)).setTcache []) := if_pos ((aligned_iff _).mpr hlow)
  show execWritePdBase s = _
  rw [execWritePdBase, hwrite]
  rfl

/-- Settles O37: `flushCache_eq`, and an empty cache has no entry. -/
theorem flushCacheClearsCache : Obligations.FlushCacheClearsCache := by
  intro s
  have hflush : exec .flushCache s = .next { s with tcache := [], out := .nothing } := rfl
  refine ⟨hflush, fun t key h => ?_⟩
  cases hflush.symm.trans h
  rfl

/-- Settles O38: the mask is the one `a20MaskOf` gives for the argument. -/
theorem setA20SetsMask : Obligations.SetA20SetsMask := by
  intro s
  have hset : exec .setA20 s = .next { s with a20Mask := a20MaskOf s.args.enabled, out := .nothing } := rfl
  refine ⟨fun henabled => ?_, fun hdisabled => ?_⟩
  · rw [hset, henabled]; rfl
  · rw [hset, hdisabled]; rfl

end Sys2Proof.Machine

/-! PROOFS. The phases of a dispatch cycle (45_port_ops.md R259 to R263): the operands are found, read, handed to the handler and
written back; which of them can raise PageFault, and in which states. -/

namespace Sys2Proof.Machine

/-! ### An instruction as its phases -/

/-- Opcode bytes, location, check and immediates (R260, R261). -/
def findOperands (d : Descriptor) (s : State) : Res (Option (Location × RegIdx) × List Nat) :=
  (skipBytes d.opcodeLen s).bind fun _ s =>
  (locate d.specifier s).bind fun loc s =>
  (checkOperand (rmOperand d.specifier) loc s).bind fun _ s =>
  (fetchImmediates d.immediates s).bind fun imms s => .ok (loc, imms) s

/-- The reads of the memory operands, the implicit ones first (R260, R277). -/
def loadOperands (d : Descriptor) (loc : Option (Location × RegIdx)) (s : State) : Res (List (Option Nat) × Option Nat) :=
  (loadImplicits d.implicit s).bind fun vs s => (loadRm (rmOperand d.specifier) loc s).bind fun v s => .ok (vs, v) s

/-- The register write-backs after the handler (R262, log 23). -/
def storeRegisters (d : Descriptor) (h : HandlerAnswer) (loc : Option (Location × RegIdx)) (s : State) : State :=
  storeRegField d.specifier loc h.reg (storeFixed d.fixed h.fixed s)

/-- All write-backs, the r/m operand's last (R262, log 23). -/
def storeOperands (d : Descriptor) (h : HandlerAnswer) (loc : Option (Location × RegIdx)) (s : State) : Res Unit :=
  (storeImplicits d.implicit h.implicit (storeRegisters d h loc s)).bind fun _ s =>
    storeRm (rmOperand d.specifier) loc h.rm s

/-- What the handler is given, registers as state `s` holds them (R262). -/
def handedValues (d : Descriptor) (found : Option (Location × RegIdx) × List Nat) (loaded : List (Option Nat) × Option Nat)
    (s : State) : OperandValues :=
  { fixed := d.fixed.map (loadFixed s), implicit := loaded.1, reg := loadRegField d.specifier found.1 s, rm := loaded.2,
    immediates := found.2 }

/-- Handler, write-backs, IP and epilog (R262 to R265). -/
def finishInstruction (d : Descriptor) (h : HandlerAnswer) (loc : Option (Location × RegIdx)) (values : OperandValues)
    (s : State) : Res OperandValues :=
  (applyHandler h s).bind fun _ s => (storeOperands d h loc s).bind fun _ s => .ok values (epilog s.advanceIp)

theorem runInstruction_phases (d : Descriptor) (h : HandlerAnswer) (s : State) :
    runInstruction d h s = (findOperands d s).bind fun found s => (loadOperands d found.1 s).bind fun loaded s =>
      finishInstruction d h found.1 (handedValues d found loaded s) s := by
  simp only [findOperands, loadOperands, finishInstruction, storeOperands, Res.bind_assoc, Res.bind_ok]
  rfl

/-- `t` is `s` but for the cursor. -/
def CursorMoved (s t : State) : Prop := ∃ c, t = s.setCursor c

theorem OnlyConsumes.cursorMoved {α : Type} {f : State → Res α} (hf : OnlyConsumes f) {s t : State}
    (ht : CursorMoved s t) : (f t).Ends (CursorMoved s) fun _ => False := by
  obtain ⟨c, rfl⟩ := ht
  rcases hf (s.setCursor c) with ⟨a, u, hu, n, rfl, -⟩ | hu <;> rw [hu]
  · exact ⟨_, rfl⟩
  · trivial

theorem skipBytes_cursorMoved (n : Nat) (s : State) : (skipBytes n s).Ends (CursorMoved s) fun _ => False := by
  rcases skipBytes_onlyAdvances (n := n) s with hu | hu <;> rw [hu]
  · exact ⟨_, rfl⟩
  · trivial

theorem checkOperand_cursorMoved (rm : Option RmOperand) (loc : Option (Location × RegIdx)) {s t : State}
    (ht : CursorMoved s t) : (checkOperand rm loc t).Ends (CursorMoved s) fun _ => False := by
  rcases checkOperand_cases rm loc t with hu | hu | hu | hu <;> rw [hu]
  · exact ht
  all_goals trivial

/-- Finding the operands moves the cursor alone and raises no PageFault. -/
theorem findOperands_cursorMoved (d : Descriptor) (s : State) :
    (findOperands d s).Ends (CursorMoved s) fun _ => False :=
  (skipBytes_cursorMoved d.opcodeLen s).bind fun _ _ hs =>
  ((locate_onlyConsumes d.specifier).cursorMoved hs).bind fun loc _ hs =>
  (checkOperand_cursorMoved _ loc hs).bind fun _ _ hs =>
  ((fetchImmediates_onlyConsumes d.immediates).cursorMoved hs).bind fun _ _ hs => hs

/-- The location found is the one `locate` answers after the opcode bytes. -/
theorem findOperands_locate {d : Descriptor} {s t : State} {found : Option (Location × RegIdx) × List Nat}
    (h : findOperands d s = .ok found t) :
    ∃ u, locate d.specifier (s.setCursor (s.cursor + d.opcodeLen)) = .ok found.1 u := by
  obtain ⟨_, u, hskip, h⟩ := Res.bind_eq_ok h
  obtain ⟨-, rfl⟩ := skipBytes_ok hskip
  obtain ⟨loc, v, hloc, h⟩ := Res.bind_eq_ok h
  obtain ⟨_, _, -, h⟩ := Res.bind_eq_ok h
  obtain ⟨_, _, -, h⟩ := Res.bind_eq_ok h
  cases h
  exact ⟨v, hloc⟩

/-- Reading the operands changes only what a read may; its PageFault has kind Read. -/
theorem loadOperands_frame (d : Descriptor) (loc : Option (Location × RegIdx)) (s : State) :
    (∀ {vs t}, loadOperands d loc s = .ok vs t → ReadFrame s t) ∧
    (∀ {x k t}, loadOperands d loc s = .pageFault x k t → k = .read ∧ ReadFrame s t) := by
  refine ⟨fun h => ?_, fun h => ?_⟩
  · obtain ⟨_, u, hu, h⟩ := Res.bind_eq_ok h
    obtain ⟨_, _, hv, h⟩ := Res.bind_eq_ok h
    cases h
    exact ((loadImplicits_frame _ s).1 hu).trans ((loadRm_frame _ loc u).1 hv)
  · rcases Res.bind_eq_pageFault h with h | ⟨_, u, hu, h⟩
    · exact (loadImplicits_frame _ s).2 h
    · rcases Res.bind_eq_pageFault h with h | ⟨_, _, _, h⟩
      · obtain ⟨hk, hf⟩ := (loadRm_frame _ loc u).2 h
        exact ⟨hk, ((loadImplicits_frame _ s).1 hu).trans hf⟩
      · cases h

theorem storeRegisters_gpr (d : Descriptor) (h : HandlerAnswer) (loc : Option (Location × RegIdx)) (s : State) :
    ∃ g, storeRegisters d h loc s = { s with gpr := g } := by
  obtain ⟨g, hg⟩ := storeFixed_frame d.fixed h.fixed s
  obtain ⟨g', hg'⟩ := storeRegField_frame d.specifier loc h.reg (storeFixed d.fixed h.fixed s)
  exact ⟨g', by rw [storeRegisters, hg', hg]⟩

/-- A write-back that raises PageFault does so with kind Write; registers and what a write may change are all that changed. -/
theorem storeOperands_pageFault {d : Descriptor} {h : HandlerAnswer} {loc : Option (Location × RegIdx)} {s t : State}
    {x : Word} {k : AccessKind} (hf : storeOperands d h loc s = .pageFault x k t) : k = .write ∧ StoreFrame s t := by
  obtain ⟨g, hg⟩ := storeRegisters_gpr d h loc s
  have hregs : StoreFrame s (storeRegisters d h loc s) := hg ▸ .of_gpr s g
  rcases Res.bind_eq_pageFault hf with hf | ⟨_, u, hu, hf⟩
  · obtain ⟨hk, hstored⟩ := (storeImplicits_frame _ _ _).2 hf
    exact ⟨hk, hregs.trans hstored⟩
  · obtain ⟨hk, hstored⟩ := (storeRm_frame _ loc _ u).2 hf
    exact ⟨hk, (hregs.trans ((storeImplicits_frame _ _ _).1 hu)).trans hstored⟩

/-- A PageFault of an instruction is raised by an operand read, or by a write-back after the handler. -/
theorem runInstruction_pageFault {d : Descriptor} {h : HandlerAnswer} {s t : State} {x : Word} {k : AccessKind}
    (hf : runInstruction d h s = .pageFault x k t) :
    ∃ found u, findOperands d s = .ok found u ∧
      (loadOperands d found.1 u = .pageFault x k t ∨
        ∃ loaded v w, loadOperands d found.1 u = .ok loaded v ∧ applyHandler h v = .ok () w ∧
          storeOperands d h found.1 w = .pageFault x k t) := by
  rw [runInstruction_phases] at hf
  rcases Res.bind_eq_pageFault hf with hf | ⟨found, u, hfound, hf⟩
  · have hnone := findOperands_cursorMoved d s
    rw [hf] at hnone
    exact hnone.elim
  refine ⟨found, u, hfound, ?_⟩
  rcases Res.bind_eq_pageFault hf with hf | ⟨loaded, v, hloaded, hf⟩
  · exact .inl hf
  rcases Res.bind_eq_pageFault hf with hf | ⟨_, w, hw, hf⟩
  · rcases applyHandler_frame h v with ⟨_, _, -, hr⟩ | hr <;> rw [hr] at hf <;> cases hf
  rcases Res.bind_eq_pageFault hf with hf | ⟨_, _, -, hf⟩
  · exact .inr ⟨loaded, v, w, hloaded, hw, hf⟩
  · cases hf

/-! ### Where a PageFault comes from (R270) -/

/-- Completed, the operation leaves a state that meets `P`; a PageFault it raises is that of a translation from such a state. -/
def Res.Keeps {α : Type} (P : State → Prop) : Res α → Prop
  | .ok _ s => P s
  | .pageFault x k s => ∃ u, P u ∧ translate x k u = .pageFault x k s
  | .fault _ => True
  | .refused _ => True

theorem Res.Keeps.intro {α : Type} {P : State → Prop} {r : Res α} (hok : ∀ a t, r = .ok a t → P t)
    (hfault : ∀ x k t, r ≠ .pageFault x k t) : r.Keeps P := by
  cases r with
  | ok a t => exact hok a t rfl
  | pageFault x k t => exact absurd rfl (hfault x k t)
  | fault | refused => trivial

theorem Res.Keeps.bind {α β : Type} {P : State → Prop} {r : Res α} {f : α → State → Res β} (hr : r.Keeps P)
    (hf : ∀ a s, P s → (f a s).Keeps P) : (r.bind f).Keeps P := by
  cases r with
  | ok a s => exact hf a s hr
  | pageFault => exact hr
  | fault | refused => trivial

theorem Res.Keeps.of_eq_ok {α : Type} {P : State → Prop} {r : Res α} {a : α} {t : State} (hr : r.Keeps P)
    (h : r = .ok a t) : P t := by
  rw [h] at hr
  exact hr

theorem Res.Keeps.of_eq_pageFault {α : Type} {P : State → Prop} {r : Res α} {x : Word} {k : AccessKind} {t : State}
    (hr : r.Keeps P) (h : r = .pageFault x k t) : ∃ u, P u ∧ translate x k u = .pageFault x k t := by
  rw [h] at hr
  exact hr

/-- What every completed part of an access keeps: translations, loads and stores, and register writes between them. -/
structure KeptByAccess (P : State → Prop) : Prop where
  translate : ∀ {l p kind s t}, P s → translate l kind s = .ok p t → P t
  loadBytes : ∀ {p n bs s t}, P s → loadBytes p n s = .ok bs t → P t
  storeBytes : ∀ {p bs u s t}, P s → storeBytes p bs s = .ok u t → P t
  gpr : ∀ {s} g, P s → P { s with gpr := g }

section

variable {P : State → Prop} (hP : KeptByAccess P)

include hP

theorem KeptByAccess.keeps_translate {s : State} (hs : P s) (l : Word) (kind : AccessKind) :
    (Machine.translate l kind s).Keeps P := by
  cases h : Machine.translate l kind s with
  | ok p t => exact hP.translate hs h
  | pageFault x k t =>
    obtain ⟨rfl, rfl, -⟩ := translate_pageFault h
    exact ⟨s, hs, h⟩
  | fault | refused => trivial

theorem KeptByAccess.keeps_loadBytes {s : State} (hs : P s) (p : Word) (n : Nat) : (Machine.loadBytes p n s).Keeps P :=
  .intro (fun _ _ => hP.loadBytes hs) fun _ _ _ => loadBytes_not_pageFault

theorem KeptByAccess.keeps_storeBytes {s : State} (hs : P s) (p : Word) (bs : List Byte) :
    (Machine.storeBytes p bs s).Keeps P :=
  .intro (fun _ _ => hP.storeBytes hs) fun _ _ _ => storeBytes_not_pageFault

theorem KeptByAccess.keeps_readByteByByte {s : State} (hs : P s) (kind : AccessKind) (n : Nat) (l : Word) :
    (readByteByByte kind n l s).Keeps P := by
  induction n generalizing l s with
  | zero => exact hs
  | succ n ih =>
    exact (hP.keeps_translate hs l kind).bind fun p _ hs => (hP.keeps_loadBytes hs p 1).bind fun _ _ hs =>
      (ih hs (l + 1)).bind fun _ _ hs => hs

theorem KeptByAccess.keeps_writeByteByByte {s : State} (hs : P s) (bs : List Byte) (l : Word) :
    (writeByteByByte bs l s).Keeps P := by
  induction bs generalizing l s with
  | nil => exact hs
  | cons b bs ih =>
    exact (hP.keeps_translate hs l .write).bind fun p _ hs => (hP.keeps_storeBytes hs p [b]).bind fun _ _ hs => ih hs (l + 1)

theorem KeptByAccess.keeps_memRead {s : State} (hs : P s) (l : Word) (n : Nat) (kind : AccessKind) :
    (memRead l n kind s).Keeps P := by
  unfold memRead
  split_ifs
  · exact hP.keeps_readByteByByte hs kind n l
  · exact (hP.keeps_translate hs l kind).bind fun p _ hs => hP.keeps_loadBytes hs p n

theorem KeptByAccess.keeps_memWrite {s : State} (hs : P s) (l : Word) (bs : List Byte) : (memWrite l bs s).Keeps P := by
  unfold memWrite
  split_ifs
  · exact hP.keeps_writeByteByByte hs bs l
  · exact (hP.keeps_translate hs l .write).bind fun p _ hs => hP.keeps_storeBytes hs p bs

theorem KeptByAccess.keeps_loadOperand {s : State} (hs : P s) (w : Width) (dir : Direction) (loc : Location) :
    (loadOperand w dir loc s).Keeps P := by
  have hread : (readLocation w loc s).Keeps P := by
    cases loc with
    | register i =>
      unfold readLocation
      cases w.toReg? with
      | some => exact hs
      | none => trivial
    | memory seg offset linear => exact (hP.keeps_memRead hs _ _ _).bind fun _ _ hu => hu
  unfold loadOperand
  split_ifs
  · exact hread.bind fun _ _ hu => hu
  · exact hs

theorem KeptByAccess.keeps_storeOperand {s : State} (hs : P s) (w : Width) (dir : Direction) (loc : Location) (v : Nat) :
    (storeOperand w dir loc v s).Keeps P := by
  have hwrite : (writeLocation w loc v s).Keeps P := by
    cases loc with
    | register i =>
      unfold writeLocation
      cases w.toReg? with
      | some rw =>
        obtain ⟨g, hg⟩ := writeReg_frame rw i v s
        show P (writeReg rw i v s)
        exact hg ▸ hP.gpr g hs
      | none => trivial
    | memory seg offset linear => exact hP.keeps_memWrite hs _ _
  unfold storeOperand
  split_ifs
  · exact hwrite
  · exact hs

theorem KeptByAccess.keeps_loadImplicits {s : State} (hs : P s) (os : List ImplicitOperand) :
    (loadImplicits os s).Keeps P := by
  induction os generalizing s with
  | nil => exact hs
  | cons o os ih => exact (hP.keeps_loadOperand hs _ _ _).bind fun _ _ hu => (ih hu).bind fun _ _ hv => hv

theorem KeptByAccess.keeps_loadRm {s : State} (hs : P s) (rm : Option RmOperand) (loc : Option (Location × RegIdx)) :
    (loadRm rm loc s).Keeps P := by
  unfold loadRm
  split
  · exact hP.keeps_loadOperand hs _ _ _
  · exact hs
  · exact hs

theorem KeptByAccess.keeps_loadOperands {s : State} (hs : P s) (d : Descriptor) (loc : Option (Location × RegIdx)) :
    (loadOperands d loc s).Keeps P :=
  (hP.keeps_loadImplicits hs _).bind fun _ _ hu => (hP.keeps_loadRm hu _ _).bind fun _ _ hv => hv

theorem KeptByAccess.keeps_storeImplicits {s : State} (hs : P s) (os : List ImplicitOperand) (vs : List Nat) :
    (storeImplicits os vs s).Keeps P := by
  induction os generalizing vs s with
  | nil => exact hs
  | cons o os ih =>
    cases vs with
    | nil => exact hs
    | cons v vs => exact (hP.keeps_storeOperand hs _ _ _ v).bind fun _ _ hu => ih hu vs

theorem KeptByAccess.keeps_storeRm {s : State} (hs : P s) (rm : Option RmOperand) (loc : Option (Location × RegIdx))
    (v : Nat) : (storeRm rm loc v s).Keeps P := by
  unfold storeRm
  split
  · exact hP.keeps_storeOperand hs _ _ _ v
  · exact hs

theorem KeptByAccess.keeps_storeOperands {s : State} (hs : P s) (d : Descriptor) (h : HandlerAnswer)
    (loc : Option (Location × RegIdx)) : (storeOperands d h loc s).Keeps P := by
  obtain ⟨g, hg⟩ := storeRegisters_gpr d h loc s
  have hregs : P (storeRegisters d h loc s) := hg ▸ hP.gpr g hs
  exact (hP.keeps_storeImplicits hregs _ _).bind fun _ _ hu => hP.keeps_storeRm hu _ _ _

end

end Sys2Proof.Machine

/-! PROOFS. What a PageFault of a dispatch cycle leaves (60_exceptions.md R271, R280, R281). -/

namespace Sys2Proof.Machine

open Sys2Proof.Claims

/-! ### Walks are counted (R231) -/

/-- Accesses count walks up from `n`. -/
theorem keptByAccess_walkCount (n : Nat) : KeptByAccess fun s => n ≤ s.walkCount where
  translate hs h := by
    rcases translate_ok h with ⟨-, -, rfl⟩ | ⟨-, _, -, -, rfl⟩ | ⟨-, -, hwalk⟩
    · exact hs
    · exact hs
    · obtain ⟨_, _, -, -, -, -, -, rfl⟩ := walk_ok hwalk
      exact Nat.le_succ_of_le hs
  loadBytes {p n bs s t} hs h := by
    unfold loadBytes at h
    split_ifs at h
    · cases h
      exact hs
    · obtain ⟨-, -, rfl⟩ := physRead_ok h
      exact hs
  storeBytes hs h := by
    rcases storeBytes_ok h with ⟨-, rfl⟩ | ⟨-, -, rfl⟩
    · exact hs
    · exact hs
  gpr _ hs := hs

/-- The walk that raised PageFault has been counted. -/
theorem Res.Keeps.lt_walkCount {α : Type} {n : Nat} {r : Res α} {x : Word} {k : AccessKind} {t : State}
    (hr : r.Keeps fun s => n ≤ s.walkCount) (h : r = .pageFault x k t) : n < t.walkCount := by
  obtain ⟨u, hu, hfault⟩ := hr.of_eq_pageFault h
  obtain ⟨-, -, rfl, -⟩ := translate_pageFault hfault
  exact Nat.lt_succ_of_le hu

theorem fetchWindow_counts {l : Word} {s : State} :
    (∀ {bs t}, fetchWindow l s = .ok bs t → s.walkCount ≤ t.walkCount) ∧
    (∀ {x k t}, fetchWindow l s = .pageFault x k t → s.walkCount < t.walkCount) := by
  have hfetch : (fetchWindow l s).Keeps fun t => s.walkCount ≤ t.walkCount :=
    ((keptByAccess_walkCount s.walkCount).keeps_memRead le_rfl _ _ _).bind fun _ _ hu => hu
  exact ⟨hfetch.of_eq_ok, hfetch.lt_walkCount⟩

/-! ### What stays before and after the handler -/

/-- `t` has registers, flags, memory, directory base and mask of `s`: nothing of the handler has happened. -/
structure Unwritten (s t : State) : Prop where
  gpr : t.gpr = s.gpr
  flags : t.flags = s.flags
  pmem : t.pmem = s.pmem
  pdBase : t.pdBase = s.pdBase
  a20Mask : t.a20Mask = s.a20Mask

theorem Unwritten.trans {s t u : State} (h1 : Unwritten s t) (h2 : Unwritten t u) : Unwritten s u :=
  ⟨h2.gpr.trans h1.gpr, h2.flags.trans h1.flags, h2.pmem.trans h1.pmem, h2.pdBase.trans h1.pdBase,
    h2.a20Mask.trans h1.a20Mask⟩

theorem ReadFrame.unwritten {s t : State} (h : ReadFrame s t) : Unwritten s t := by
  obtain ⟨_, _, _, _, rfl⟩ := h
  exact ⟨rfl, rfl, rfl, rfl, rfl⟩

theorem fetchWindow_unwritten {l : Word} {s t : State} {bs : List Byte} (h : fetchWindow l s = .ok bs t) :
    Unwritten s t := by
  obtain ⟨-, u, -, hread, rfl⟩ := fetchWindow_ok h
  exact hread.unwritten.trans ⟨rfl, rfl, rfl, rfl, rfl⟩

/-- `t` has the flags the handler left, and directory base and mask as its maintenance operations make them from `s`. -/
structure Handled (h : HandlerAnswer) (s t : State) : Prop where
  flags : t.flags = h.flags
  pdBase : t.pdBase = (h.operations.foldl afterMaintenance s).pdBase
  a20Mask : t.a20Mask = (h.operations.foldl afterMaintenance s).a20Mask

/-- Directory base and mask after the maintenance operations depend on no other part of the state. -/
theorem foldl_afterMaintenance_congr (ops : List MaintenanceOp) {s t : State} (hbase : t.pdBase = s.pdBase)
    (hmask : t.a20Mask = s.a20Mask) : (ops.foldl afterMaintenance t).pdBase = (ops.foldl afterMaintenance s).pdBase ∧
      (ops.foldl afterMaintenance t).a20Mask = (ops.foldl afterMaintenance s).a20Mask := by
  induction ops generalizing s t with
  | nil => exact ⟨hbase, hmask⟩
  | cons op ops ih =>
    cases op with
    | writePdBase v => exact ih rfl hmask
    | flushCache => exact ih hbase hmask
    | setA20 enabled => exact ih hbase rfl

theorem Unwritten.trans_handled {h : HandlerAnswer} {s t u : State} (h1 : Unwritten s t) (h2 : Handled h t u) :
    Handled h s u := by
  obtain ⟨hbase, hmask⟩ := foldl_afterMaintenance_congr h.operations h1.pdBase h1.a20Mask
  exact ⟨h2.flags, h2.pdBase.trans hbase, h2.a20Mask.trans hmask⟩

theorem Handled.trans_store {h : HandlerAnswer} {s t u : State} (h1 : Handled h s t) (h2 : StoreFrame t u) :
    Handled h s u := by
  obtain ⟨_, _, _, _, _, _, rfl⟩ := h2
  exact ⟨h1.flags, h1.pdBase, h1.a20Mask⟩

theorem runMaintenances_ok {ops : List MaintenanceOp} {s t : State} (h : runMaintenances ops s = .ok () t) :
    t = ops.foldl afterMaintenance s := by
  induction ops generalizing s with
  | nil => cases h; rfl
  | cons op ops ih =>
    obtain ⟨_, u, hop, h⟩ := Res.bind_eq_ok h
    obtain rfl : u = afterMaintenance s op := by
      obtain ⟨v, rfl, -, hr⟩ | ⟨v, -, -, hr⟩ | ⟨rfl, hr⟩ | ⟨b, rfl, hr⟩ := runMaintenance_cases op s <;>
        rw [hr] at hop <;> cases hop <;> rfl
    exact ih h

/-- A handler that completes has left its flags and its maintenance operations' effects, and has walked nothing. -/
theorem applyHandler_ok {h : HandlerAnswer} {s t : State} (hok : applyHandler h s = .ok () t) :
    Handled h s t ∧ t.walkCount = s.walkCount := by
  obtain ⟨_, u, hu, hok⟩ := Res.bind_eq_ok hok
  obtain ⟨g, hg⟩ := applyWrites_frame h u
  rw [hg] at hok
  cases hok
  refine ⟨⟨rfl, ?_, ?_⟩, ?_⟩
  · rw [← runMaintenances_ok hu]
  · rw [← runMaintenances_ok hu]
  · rcases runMaintenances_frame h.operations s with ⟨_, hr, _, _, _, rfl⟩ | hr <;> rw [hr] at hu <;> cases hu
    rfl

/-! ### The cycle that raises PageFault -/

/-- What a PageFault of kind `kind` leaves of the state `s` its cycle began in. -/
structure FaultLeaves (h : HandlerAnswer) (s : State) (kind : AccessKind) (t : State) : Prop where
  context : SameContext s t
  counted : s.walkCount < t.walkCount
  unwritten : kind ≠ .write → Unwritten s t
  handled : kind = .write → Handled h s t

theorem runInstruction_faultLeaves {d : Descriptor} {h : HandlerAnswer} {s t : State} {x : Word} {kind : AccessKind}
    (hf : runInstruction d h s = .pageFault x kind t) : FaultLeaves h s kind t := by
  have hcontext : SameContext s t := by
    have hends := runInstruction_ends d h s
    rw [hf] at hends
    exact hends
  have hcounts := keptByAccess_walkCount s.walkCount
  obtain ⟨found, u, hfound, hphase⟩ := runInstruction_pageFault hf
  obtain ⟨c, rfl⟩ := (findOperands_cursorMoved d s).of_eq_ok hfound
  have hreads := hcounts.keeps_loadOperands (s := s.setCursor c) le_rfl d found.1
  have hfind : Unwritten s (s.setCursor c) := ⟨rfl, rfl, rfl, rfl, rfl⟩
  rcases hphase with hread | ⟨loaded, v, w, hloaded, hhandler, hstore⟩
  · obtain ⟨rfl, hframe⟩ := (loadOperands_frame d found.1 _).2 hread
    exact ⟨hcontext, hreads.lt_walkCount hread, fun _ => hfind.trans hframe.unwritten, fun hk => by cases hk⟩
  · obtain ⟨rfl, hframe⟩ := storeOperands_pageFault hstore
    obtain ⟨hhandled, hcount⟩ := applyHandler_ok hhandler
    have hloads : Unwritten s v := hfind.trans ((loadOperands_frame d found.1 _).1 hloaded).unwritten
    have hw : s.walkCount ≤ w.walkCount := hcount ▸ hreads.of_eq_ok hloaded
    exact ⟨hcontext, (hcounts.keeps_storeOperands hw d h found.1).lt_walkCount hstore, fun hk => absurd rfl hk,
      fun _ => hloads.trans_handled (hhandled.trans_store hframe)⟩

/-- A fault of the fetch comes before everything; one of the dispatched instruction leaves what it leaves of the fetched state. -/
theorem runCycle_faultLeaves {procedures : Vector (Option Descriptor) 4} {h : HandlerAnswer} {s t : State} {a : Word}
    {kind : AccessKind} (hnext : runCycle (.entry procedures h) s = .next t) (hout : t.out = .pageFault a kind) :
    ∃ u, FaultLeaves h s kind u ∧ t = u.setOut (.pageFault a kind) := by
  rcases runCycle_next hnext with ⟨_, u, i, left, -, hdecode, hexec⟩ | ⟨bs, u, hfetch, hdispatch⟩ |
    ⟨x, k, u, hfetch, rfl⟩
  · rw [exec_prefix_out (decodePrefix_prefixByte hdecode) hexec] at hout
    cases hout
  · obtain ⟨_, _, d, hentry, -, ⟨_, _, -, rfl⟩ | ⟨x, k, v, hrun, rfl⟩⟩ := dispatchOpcode_next hdispatch
    · cases hout
    · cases hentry
      cases hout
      have hleaves := runInstruction_faultLeaves hrun
      have hunwritten := fetchWindow_unwritten hfetch
      refine ⟨v, ⟨?_, ?_, ?_, ?_⟩, rfl⟩
      · exact ((fetchWindow_keepsContext _ s).of_eq_ok hfetch).trans hleaves.context
      · exact (fetchWindow_counts.1 hfetch).trans_lt hleaves.counted
      · exact fun hk => hunwritten.trans (hleaves.unwritten hk)
      · exact fun hk => hunwritten.trans_handled (hleaves.handled hk)
  · cases hout
    obtain ⟨rfl, hread⟩ := fetchWindow_pageFault hfetch
    exact ⟨u, ⟨hread.toWrite.sameContext, fetchWindow_counts.2 hfetch, fun _ => hread.unwritten, fun hk => by cases hk⟩, rfl⟩

/-- Settles O51: the parts of `FaultLeaves`, one by one. -/
theorem cyclePageFault : Obligations.CyclePageFault := by
  intro s t procedures h rest a kind hreq hnext hout
  obtain ⟨u, ⟨hcontext, hcounted, hunwritten, hhandled⟩, rfl⟩ :=
    runCycle_faultLeaves ((step_of_request hreq).symm.trans hnext) hout
  have hfold := foldl_afterMaintenance_congr h.operations (s := s) (t := s.setRequests rest) rfl rfl
  refine ⟨hcontext.ip, hcontext.segOverride, hcontext.addressSize32, hcontext.operandSize32, hcontext.segBase, hcounted,
    fun hk => ?_, fun hk => ?_⟩
  · obtain ⟨hgpr, hflags, hpmem, hbase, hmask⟩ := hunwritten hk
    exact ⟨hgpr, hflags, hpmem, hbase, hmask⟩
  · obtain ⟨hflags, hbase, hmask⟩ := hhandled hk
    exact ⟨hflags, hbase.trans hfold.1, hmask.trans hfold.2⟩

end Sys2Proof.Machine

/-! PROOFS. The handler cannot move a write-back (45_port_ops.md R263): its registers and flags are not seen by any store. -/

namespace Sys2Proof.Machine

/-- The same end, in states that differ in general registers and flags alone. -/
def Res.SameButRegs {α : Type} (r r' : Res α) : Prop := ∃ g v, r' = r.mapState (.withRegs (fun _ => g) v)

theorem Res.SameButRegs.refl_fault {α : Type} (f : Fault) : (Res.fault f : Res α).SameButRegs (.fault f) :=
  ⟨Vector.replicate 8 0, 0, rfl⟩

theorem Res.SameButRegs.refl_refused {α : Type} (f : Refusal) : (Res.refused f : Res α).SameButRegs (.refused f) :=
  ⟨Vector.replicate 8 0, 0, rfl⟩

/-- The same first part, then parts that end the same from each state it leaves. -/
theorem Res.SameButRegs.bind_right {α β : Type} (r : Res α) {f f' : α → State → Res β}
    (hf : ∀ a s, (f a s).SameButRegs (f' a s)) : (r.bind f).SameButRegs (r.bind f') := by
  cases r with
  | ok a s => exact hf a s
  | pageFault x k s => exact ⟨s.gpr, s.flags, rfl⟩
  | fault f => exact .refl_fault f
  | refused f => exact .refl_refused f

/-- First parts that end the same, then parts that do so from states with other registers and flags. -/
theorem Res.SameButRegs.bind {α β : Type} {r r' : Res α} {f f' : α → State → Res β} (hr : r.SameButRegs r')
    (hf : ∀ a s g v, (f a s).SameButRegs (f' a (s.withRegs (fun _ => g) v))) : (r.bind f).SameButRegs (r'.bind f') := by
  obtain ⟨g, v, rfl⟩ := hr
  cases r with
  | ok a s => exact hf a s g v
  | pageFault x k s => exact ⟨g, v, rfl⟩
  | fault f => exact .refl_fault f
  | refused f => exact .refl_refused f

/-! ### Write-backs under other registers and flags -/

/-- The maintenance operations are the same in both runs; after them only registers and flags are written. -/
theorem applyHandler_sameButRegs (h : HandlerAnswer) (writes : List (RegIdx × Word)) (flags : Word) (s : State) :
    (applyHandler h s).SameButRegs (applyHandler { h with gprWrites := writes, flags := flags } s) := by
  refine .bind_right (runMaintenances h.operations s) fun _ u => ?_
  obtain ⟨g, hg⟩ := applyWrites_frame h u
  obtain ⟨g', hg'⟩ := applyWrites_frame { h with gprWrites := writes, flags := flags } u
  rw [hg, hg']
  exact ⟨g', flags, rfl⟩

section

variable (g : Vector Word 8) (v : Word)

/-- An implicit operand lies in memory, at an address no general register enters. -/
theorem storeImplicits_commutes (os : List ImplicitOperand) (vs : List Nat) :
    Commutes (.withRegs (fun _ => g) v) (storeImplicits os vs) := by
  induction os generalizing vs with
  | nil => exact fun _ => rfl
  | cons o os ih =>
    cases vs with
    | nil => exact fun _ => rfl
    | cons value vs =>
      intro s
      have hstore : Commutes (.withRegs (fun _ => g) v) (storeOperand o.width o.dir (o.location s) value) :=
        .ite (fun _ => Iff.rfl) (memWrite_commutes _ v _ _) fun _ => rfl
      exact (hstore.bind fun _ => ih vs) s

/-- A register location takes the value in both runs; a memory location is written the same. -/
theorem storeRm_sameButRegs (rm : Option RmOperand) (loc : Option (Location × RegIdx)) (value : Nat) (s : State) :
    (storeRm rm loc value s).SameButRegs (storeRm rm loc value (s.withRegs (fun _ => g) v)) := by
  have hwrite (w : Width) (l : Location) :
      (writeLocation w l value s).SameButRegs (writeLocation w l value (s.withRegs (fun _ => g) v)) := by
    cases l with
    | register i =>
      unfold writeLocation
      cases w.toReg? with
      | some rw =>
        obtain ⟨g₁, hg₁⟩ := writeReg_frame rw i value s
        obtain ⟨g₂, hg₂⟩ := writeReg_frame rw i value (s.withRegs (fun _ => g) v)
        simp only [hg₁, hg₂]
        exact ⟨g₂, v, rfl⟩
      | none => exact .refl_refused _
    | memory seg offset linear => exact ⟨g, v, memWrite_commutes _ v _ _ s⟩
  unfold storeRm
  split
  · unfold storeOperand
    split_ifs
    · exact hwrite _ _
    · exact ⟨g, v, rfl⟩
  · exact ⟨g, v, rfl⟩

theorem storeOperands_sameButRegs (d : Descriptor) (h : HandlerAnswer) (loc : Option (Location × RegIdx)) (s : State) :
    (storeOperands d h loc s).SameButRegs (storeOperands d h loc (s.withRegs (fun _ => g) v)) := by
  obtain ⟨g₁, hg₁⟩ := storeRegisters_gpr d h loc s
  obtain ⟨g₂, hg₂⟩ := storeRegisters_gpr d h loc (s.withRegs (fun _ => g) v)
  have himplicit : (storeImplicits d.implicit h.implicit (storeRegisters d h loc s)).SameButRegs
      (storeImplicits d.implicit h.implicit (storeRegisters d h loc (s.withRegs (fun _ => g) v))) := by
    rw [hg₁, hg₂]
    exact ⟨g₂, v, storeImplicits_commutes g₂ v _ _ { s with gpr := g₁ }⟩
  exact himplicit.bind fun _ u g' v' => storeRm_sameButRegs g' v' _ loc _ u

end

/-! ### Two runs of one cycle -/

/-- Location, operand values and maintenance operations are the same in both runs, and no write-back sees the difference. -/
theorem runInstruction_sameButRegs (d : Descriptor) (h : HandlerAnswer) (writes : List (RegIdx × Word)) (flags : Word)
    (s : State) :
    (runInstruction d h s).SameButRegs (runInstruction d { h with gprWrites := writes, flags := flags } s) := by
  rw [runInstruction_phases, runInstruction_phases]
  exact .bind_right _ fun found _ => .bind_right _ fun loaded u =>
    (applyHandler_sameButRegs h writes flags u).bind fun _ u g v =>
      (storeOperands_sameButRegs g v d h found.1 u).bind fun _ u g v => ⟨g, v, rfl⟩

/-- The memory of a state: backing store and calls of the video handler (R74). -/
def SameMemory (s t : State) : Prop := t.pmem = s.pmem ∧ t.videoCalls = s.videoCalls

theorem Res.SameButRegs.sameMemory {α : Type} {r r' : Res α} {k : α → State → State} {t t' : State}
    (hr : r.SameButRegs r') (h : r.toOutcome k = .next t) (h' : r'.toOutcome k = .next t')
    (hk : ∀ a s, SameMemory s (k a s)) : SameMemory t t' := by
  obtain ⟨g, v, rfl⟩ := hr
  cases r with
  | ok a s =>
    cases h
    cases h'
    exact ⟨(hk a _).1.trans (hk a s).1.symm, (hk a _).2.trans (hk a s).2.symm⟩
  | pageFault x kind s =>
    cases h
    cases h'
    exact ⟨rfl, rfl⟩
  | fault | refused => cases h

theorem exec_prefix_sameMemory {i : Instr} {s t : State} (hprefix : i.prefixByte ≠ none) (h : exec i s = .next t) :
    SameMemory s t := by
  cases prefix_mayLeave hprefix h with
  | consumed | prefixed => exact ⟨rfl, rfl⟩
  | _ => exact absurd rfl hprefix

theorem dispatchOpcode_sameMemory {procedures : Vector (Option Descriptor) 4} {h : HandlerAnswer}
    {writes : List (RegIdx × Word)} {flags : Word} {s t t' : State}
    (hnext : dispatchOpcode (.entry procedures h) s = .next t)
    (hnext' : dispatchOpcode (.entry procedures { h with gprWrites := writes, flags := flags }) s = .next t') :
    SameMemory t t' := by
  unfold dispatchOpcode at hnext hnext'
  cases hproc : procedures.get (slotIndex s) with
  | some d =>
    simp only [hproc] at hnext hnext'
    exact (runInstruction_sameButRegs d h writes flags s).sameMemory hnext hnext' fun _ _ => ⟨rfl, rfl⟩
  | none =>
    simp only [hproc] at hnext
    cases hnext

theorem runCycle_sameMemory {procedures : Vector (Option Descriptor) 4} {h : HandlerAnswer}
    {writes : List (RegIdx × Word)} {flags : Word} {s t t' : State}
    (hnext : runCycle (.entry procedures h) s = .next t)
    (hnext' : runCycle (.entry procedures { h with gprWrites := writes, flags := flags }) s = .next t') :
    SameMemory t t' := by
  unfold runCycle at hnext hnext'
  cases hfetch : fetchWindow (fetchAddress s) s with
  | ok bs u =>
    cases hdecode : decodePrefix u.win with
    | ok i left =>
      simp only [hfetch, hdecode] at hnext hnext'
      have hprefix := decodePrefix_prefixByte hdecode
      obtain ⟨hmem, hvideo⟩ := exec_prefix_sameMemory hprefix hnext
      obtain ⟨hmem', hvideo'⟩ := exec_prefix_sameMemory hprefix hnext'
      exact ⟨hmem'.trans hmem.symm, hvideo'.trans hvideo.symm⟩
    | reject e =>
      simp only [hfetch, hdecode] at hnext hnext'
      exact dispatchOpcode_sameMemory hnext hnext'
  | pageFault x kind u =>
    simp only [hfetch] at hnext hnext'
    cases hnext
    cases hnext'
    exact ⟨rfl, rfl⟩
  | fault | refused =>
    simp only [hfetch] at hnext
    cases hnext

/-- Settles O50: both runs serve the same cycle from the same state, the request taken off. -/
theorem writeBackLocationResolvedOnce : Obligations.WriteBackLocationResolvedOnce := by
  intro s t t' procedures h rest writes flags hreq hnext hnext'
  rw [step_of_request hreq] at hnext
  exact runCycle_sameMemory (s := s.setRequests rest) hnext hnext'

end Sys2Proof.Machine

/-! PROOFS. An inout operand within one page: its read leaves the page translated without a walk, and so its write-back does not
fault (45_port_ops.md R263). -/

namespace Sys2Proof.Machine

open Sys2Proof.Claims

/-! ### Pages that no translation walks -/

/-- No translation in page `key` walks: paging is disabled or the page is cached (R227, R229). -/
def NoWalk (key : Nat) (s : State) : Prop := s.pdBase ≠ 0 → ∃ base, Caches key base s

/-- Accesses leave the directory base and the cached pages. -/
theorem keptByAccess_noWalk (key : Nat) : KeptByAccess (NoWalk key) where
  translate {l p kind s t} hs h hpaged := by
    have hbase : t.pdBase = s.pdBase := by
      obtain ⟨_, _, rfl⟩ := translate_frame h
      rfl
    obtain ⟨base, hcached⟩ := hs (hbase ▸ hpaged)
    exact ⟨base, (translate_caches hcached l kind).of_eq_ok h⟩
  loadBytes {p n bs s t} hs h hpaged := by
    have hbase : t.pdBase = s.pdBase := by
      obtain ⟨-, ⟨_, _, _, _, rfl⟩, -⟩ := loadBytes_ok h
      rfl
    obtain ⟨base, hcached⟩ := hs (hbase ▸ hpaged)
    exact ⟨base, (loadBytes_caches hcached p n).of_eq_ok h⟩
  storeBytes {p bs u s t} hs h hpaged := by
    have hbase : t.pdBase = s.pdBase := by
      obtain ⟨_, _, _, _, _, rfl⟩ := storeBytes_frame h
      rfl
    obtain ⟨base, hcached⟩ := hs (hbase ▸ hpaged)
    exact ⟨base, (storeBytes_caches hcached p bs).of_eq_ok h⟩
  gpr _ hs := hs

/-- A completed translation leaves its page so (R236). -/
theorem translate_noWalk {l p : Word} {kind : AccessKind} {s t : State} (h : translate l kind s = .ok p t) :
    NoWalk (pageNumber l) t := by
  rcases translate_ok h with ⟨hunpaged, -, rfl⟩ | ⟨-, base, hfind, -, rfl⟩ | ⟨-, -, hwalk⟩
  · exact fun hpaged => absurd hunpaged hpaged
  · exact fun _ => ⟨base, hfind⟩
  · obtain ⟨_, pte, -, -, -, -, -, rfl⟩ := walk_ok hwalk
    exact fun _ => ⟨entryBase pte, Tcache.find?_insert_same _ _ _⟩

/-- A PageFault raised from states in which page `key` does not walk is in another page. -/
theorem Res.Keeps.pageNumber_ne {α : Type} {key : Nat} {r : Res α} {x : Word} {k : AccessKind} {t : State}
    (hr : r.Keeps (NoWalk key)) (h : r = .pageFault x k t) : pageNumber x ≠ key := by
  obtain ⟨u, hu, hfault⟩ := hr.of_eq_pageFault h
  obtain ⟨-, -, -, hpaged, hmiss⟩ := translate_pageFault hfault
  obtain ⟨base, hcached⟩ := hu hpaged
  rintro rfl
  exact Option.some_ne_none base (hcached.symm.trans hmiss)

/-! ### After the read of an inout operand -/

/-- The read of an operand within one page is one translation in it (R65). -/
theorem loadOperand_noWalk {w : Width} {seg : Seg} {offset linear : Word} {s t : State} {v : Option Nat}
    (hfits : linear.toNat % 4096 + w.bytes ≤ 4096)
    (h : loadOperand w .inout (.memory seg offset linear) s = .ok v t) : NoWalk (pageNumber linear) t := by
  obtain ⟨_, u, hread, h⟩ := Res.bind_eq_ok h
  cases h
  obtain ⟨_, _, hread, h⟩ := Res.bind_eq_ok hread
  cases h
  rw [memRead_of_fits hfits] at hread
  obtain ⟨_, _, htranslate, hload⟩ := Res.bind_eq_ok hread
  exact (keptByAccess_noWalk _).loadBytes (translate_noWalk htranslate) hload

theorem loadImplicits_noWalk {os : List ImplicitOperand} {o : ImplicitOperand} {offset linear : Word} {seg : Seg}
    {s t : State} {vs : List (Option Nat)} (ho : o ∈ os) (hdir : o.dir = .inout)
    (hloc : o.location s = .memory seg offset linear) (hfits : linear.toNat % 4096 + o.width.bytes ≤ 4096)
    (h : loadImplicits os s = .ok vs t) : NoWalk (pageNumber linear) t := by
  induction os generalizing s vs with
  | nil => cases ho
  | cons o' os ih =>
    obtain ⟨_, u, hload, h⟩ := Res.bind_eq_ok h
    obtain ⟨_, _, hrest, h⟩ := Res.bind_eq_ok h
    cases h
    cases ho with
    | head =>
      rw [hdir, hloc] at hload
      exact ((keptByAccess_noWalk _).keeps_loadImplicits (loadOperand_noWalk hfits hload) os).of_eq_ok hrest
    | tail _ ho =>
      have hsame : o.location u = o.location s := by
        obtain ⟨_, _, _, _, rfl⟩ := (loadOperand_frame _ _ _ s).1 hload
        rfl
      exact ih ho (hsame.trans hloc) hrest

/-- Once the operands are read, the page of an inout r/m operand does not walk. -/
theorem loadOperands_noWalk_rm {d : Descriptor} {kind : LocationKind} {w : Width} {seg : Seg} {offset linear : Word}
    {reg : RegIdx} {s t : State} {loaded : List (Option Nat) × Option Nat}
    (hrm : rmOperand d.specifier = some (.location kind w .inout)) (hfits : linear.toNat % 4096 + w.bytes ≤ 4096)
    (h : loadOperands d (some (.memory seg offset linear, reg)) s = .ok loaded t) : NoWalk (pageNumber linear) t := by
  obtain ⟨_, u, -, h⟩ := Res.bind_eq_ok h
  obtain ⟨_, _, hload, h⟩ := Res.bind_eq_ok h
  cases h
  rw [hrm] at hload
  exact loadOperand_noWalk hfits hload

/-- Once the operands are read, the page of an inout implicit operand does not walk: the reads after its own keep it so. -/
theorem loadOperands_noWalk_implicit {d : Descriptor} {loc : Option (Location × RegIdx)} {o : ImplicitOperand}
    {seg : Seg} {offset linear : Word} {s t : State} {loaded : List (Option Nat) × Option Nat} (ho : o ∈ d.implicit)
    (hdir : o.dir = .inout) (hloc : o.location s = .memory seg offset linear)
    (hfits : linear.toNat % 4096 + o.width.bytes ≤ 4096) (h : loadOperands d loc s = .ok loaded t) :
    NoWalk (pageNumber linear) t := by
  obtain ⟨_, u, hload, h⟩ := Res.bind_eq_ok h
  obtain ⟨_, _, hrm, h⟩ := Res.bind_eq_ok h
  cases h
  exact ((keptByAccess_noWalk _).keeps_loadRm (loadImplicits_noWalk ho hdir hloc hfits hload) _ loc).of_eq_ok hrm

/-- A handler that causes `SetA20` alone leaves base and cache, so no write-back faults in a page that did not walk before it. -/
theorem storeOperands_pageNumber_ne {d : Descriptor} {h : HandlerAnswer} {loc : Option (Location × RegIdx)} {key : Nat}
    {s t u : State} {x : Word} {k : AccessKind} (hops : ∀ op ∈ h.operations, ∃ enabled, op = .setA20 enabled)
    (hs : NoWalk key s) (hhandler : applyHandler h s = .ok () t) (hstore : storeOperands d h loc t = .pageFault x k u) :
    pageNumber x ≠ key := by
  have ht : NoWalk key t := by
    obtain ⟨m, hm⟩ := runMaintenances_setA20 hops s
    obtain ⟨g, hg⟩ := applyWrites_frame h { s with a20Mask := m }
    rw [applyHandler, hm, Res.bind_ok, hg] at hhandler
    cases hhandler
    exact hs
  exact ((keptByAccess_noWalk key).keeps_storeOperands ht d h loc).pageNumber_ne hstore

/-! ### The location of the operands -/

/-- `locate` finds what the statements call the operand's location. -/
theorem locate_of_located {spec : Specifier} {loc : Option (Location × RegIdx)} {s t : State} (h : located spec loc s t) :
    locate spec s = .ok loc t := by
  cases spec with
  | none =>
    obtain ⟨rfl, rfl⟩ := h
    rfl
  | memoryOffset w dir =>
    obtain ⟨disp, left, hdrop, hlen, rfl, rfl⟩ := h
    exact memoryOffsetOperand s w dir disp left hdrop hlen
  | full w dir rm | onlyExtraDigit rm =>
    obtain ⟨l, reg, hres, rfl⟩ := h
    rw [locate, hres, Res.bind_ok]

/-- An implicit operand is where the statements say, in every state with the same segment bases. -/
theorem ImplicitOperand.location_eq {s t : State} (o : ImplicitOperand) (hseg : t.segBase = s.segBase) :
    o.location t = implicitAt s o := by
  rw [ImplicitOperand.location, State.linear, State.baseOf, hseg, implicitAt, State.baseOf, BitVec.ofNat_add,
    BitVec.ofNat_toNat, BitVec.ofNat_toNat, BitVec.setWidth_eq, BitVec.setWidth_eq]

/-- A cycle that ends in a PageFault of kind Write: what `runInstruction_pageFault` says of it, with the location found. -/
theorem storeFault_of_operandsRead {s v x : State} {d : Descriptor} {h : HandlerAnswer} {rest : List Request}
    {loc : Option (Location × RegIdx)} {imm : List Byte} {implicit : List (Option Nat)} {rm : Option Nat} {a : Word}
    (hread : operandsRead s d h rest loc imm implicit rm v) (hnext : step s = .next x) (hout : x.out = .pageFault a .write) :
    ∃ t loaded u w z, t.segBase = s.segBase ∧ loadOperands d loc t = .ok loaded u ∧ applyHandler h u = .ok () w ∧
      storeOperands d h loc w = .pageFault a .write z := by
  obtain ⟨win, left, t, t', mid, hd, -, hlocated, -⟩ := hread
  have ⟨_, hfetched, _⟩ := hd
  rw [step_of_dispatches hd] at hnext
  obtain ⟨_, _, -, rfl⟩ | ⟨a', kind, z, hrun, rfl⟩ := Res.toOutcome_eq_next hnext
  · cases hout
  cases hout
  obtain ⟨found, u, hfound, hphase⟩ := runInstruction_pageFault hrun
  obtain ⟨c, rfl⟩ := (findOperands_cursorMoved d t).of_eq_ok hfound
  obtain rfl : loc = found.1 := by
    obtain ⟨_, hlocate⟩ := findOperands_locate hfound
    rw [fetched_cursor hfetched, Nat.zero_add] at hlocate
    cases (locate_of_located hlocated).symm.trans hlocate
    rfl
  rcases hphase with hload | ⟨loaded, y, w, hload, hhandler, hstore⟩
  · cases ((loadOperands_frame d _ _).2 hload).1
  · exact ⟨t.setCursor c, loaded, y, w, z, (fetched_sameContext hfetched).segBase, hload, hhandler, hstore⟩

/-- Settles O59: the read leaves the operand's page without walks, handler and write-backs keep it so, and a PageFault comes from
a walk. -/
theorem inoutWriteBackDoesNotFault : Obligations.InoutWriteBackDoesNotFault := by
  intro s v x d h rest loc imm implicit rm a hread hops hnext hout
  obtain ⟨t, loaded, u, w, z, hseg, hload, hhandler, hstore⟩ := storeFault_of_operandsRead hread hnext hout
  refine ⟨fun kind w seg offset linear reg hrm hloc hfits => ?_, fun o ho seg offset linear hdir hloc hfits => ?_⟩
  · subst hloc
    exact storeOperands_pageNumber_ne hops (loadOperands_noWalk_rm hrm hfits hload) hhandler hstore
  · rw [← o.location_eq hseg] at hloc
    exact storeOperands_pageNumber_ne hops (loadOperands_noWalk_implicit ho hdir hloc hfits hload) hhandler hstore

end Sys2Proof.Machine

/-! PROOFS. How a dispatch cycle stops before its operands are read (60_exceptions.md R272 to R274, R277, R281): the fetch's
PageFault, the two dispatch faults, the AddressingFault of a register form. -/

namespace Sys2Proof.Machine

open Sys2Proof.Claims

/-! ### The fetch faults (R277) -/

theorem step_of_fetchFault {s t : State} {answer : DispatchAnswer} {rest : List Request} {a : Word} {kind : AccessKind}
    (hreq : s.requests = .cycle answer :: rest)
    (hfetch : fetchWindow (s.baseOf .cs + s.ip) { s with requests := rest } = .pageFault a kind t) :
    step s = .next (signalPageFault a kind t) := by
  have hfetch' : fetchWindow (fetchAddress (s.setRequests rest)) (s.setRequests rest) = .pageFault a kind t := hfetch
  rw [step_of_request hreq, serve, runCycle, hfetch']

/-- Settles O45: the cycle signals what the fetch raised before it looks at the answer, and a fetch that faults has read only. -/
theorem fetchFaultComesFirst : Obligations.FetchFaultComesFirst := by
  intro s t answer rest a kind hreq hfetch
  have hstep := step_of_fetchFault hreq hfetch
  obtain ⟨rfl, _, _, _, _, rfl⟩ := fetchWindow_pageFault hfetch
  exact ⟨rfl, hstep, rfl, rfl, rfl, rfl, rfl, rfl, rfl⟩

/-! ### The dispatch faults (R273, R274) -/

theorem fetched_win {s t : State} {answer : DispatchAnswer} {rest : List Request} {win : List Byte}
    (h : fetched s answer rest win t) : t.win = win := by
  obtain ⟨-, u, -, -, rfl⟩ := fetchWindow_ok h.2.1
  rfl

/-- The fetch keeps the size bits, and so the active slot (R37). -/
theorem fetched_slotIndex {s t : State} {answer : DispatchAnswer} {rest : List Request} {win : List Byte}
    (h : fetched s answer rest win t) : (slotIndex t).val = slotNumber s := by
  have hcontext := fetched_sameContext h
  rw [slotIndex_val, slotNumber, slotNumber, hcontext.addressSize32, hcontext.operandSize32]

/-- Settles O44: a fetched opcode goes to the dispatch, whose answer decides; a fetch that faults leaves a next state instead. -/
theorem dispatchFaults : Obligations.DispatchFaults := by
  refine ⟨fun s t n rest win hfetched => ?_, fun s t n rest a kind examined hreq hfetch => ?_,
    fun s t procedures h rest win hfetched hslot => ?_⟩
  · rw [step_of_fetched hfetched, dispatchOpcode, fetched_win hfetched]
  · rw [step_of_fetchFault hreq hfetch]
    exact nofun
  · have hproc : procedures.get (slotIndex t) = none := by
      rw [← fetched_slotIndex hfetched, Vector.getElem?_eq_getElem (slotIndex t).isLt] at hslot
      exact Option.some.inj hslot
    rw [step_of_fetched hfetched, dispatchOpcode, hproc, fetched_slotIndex hfetched]

/-! ### A register form where memory is asked for (R272) -/

/-- In both address sizes mod = 3 names a register and ends the specifier (R145, R172). -/
theorem resolve_of_mod3 {s : State} {m : Byte} (hbyte : s.win[s.cursor]? = some m) (hmod : modOf m = 3) :
    resolve s = .ok (.register (rmOf m), regOf m) (s.setCursor (s.cursor + 1)) := by
  have hfetch : fetch8 s = .ok m (s.setCursor (s.cursor + 1)) := by rw [fetch8, hbyte]
  unfold resolve
  split_ifs
  · rw [resolve32, hfetch, Res.bind_ok]
    exact if_pos hmod
  · rw [resolve16, hfetch, Res.bind_ok]
    exact if_pos hmod

theorem locate_onlyExtraDigit {rm : RmOperand} {s u : State} {a : Location × RegIdx} (hres : resolve s = .ok a u) :
    locate (.onlyExtraDigit rm) s = .ok (some a) u := by
  rw [locate, hres, Res.bind_ok]

theorem checkOperand_register {rm : RmOperand} (hrm : (∃ w dir, rm = .location .memoryOnly w dir) ∨ rm = .effectiveAddress)
    (i reg : RegIdx) (s : State) :
    checkOperand (some rm) (some (.register i, reg)) s = .fault .addressingFault := by
  rcases hrm with ⟨_, _, rfl⟩ | rfl <;> rfl

/-- Settles O43: mod = 3 resolves to a register whatever the state, and the check stops the instruction there. -/
theorem addressingFaultOnRegisterForm : Obligations.AddressingFaultOnRegisterForm := by
  intro s t d h rest win m rm hd hspec hrm hbyte hm
  have ⟨_, hfetched, _⟩ := hd
  have hcursor : t.cursor + d.opcodeLen = d.opcodeLen := by rw [fetched_cursor hfetched, Nat.zero_add]
  have hfits : t.cursor + d.opcodeLen ≤ windowLen := by
    obtain ⟨hlt, -⟩ := List.getElem?_eq_some_iff.mp hbyte
    rw [hcursor, ← (fetchWindow_ok hfetched.2.1).1]
    exact hlt.le
  have hres := resolve_of_mod3 (s := t.setCursor (t.cursor + d.opcodeLen)) (m := m)
    (by rw [hcursor]; exact fetched_win hfetched ▸ hbyte) (mod_of_mask hm)
  have hoperand : ∃ u, locate d.specifier (t.setCursor (t.cursor + d.opcodeLen)) = .ok (some (.register (rmOf m), regOf m)) u ∧
      rmOperand d.specifier = some rm := by
    rcases hspec with ⟨w, dir, hspec⟩ | hspec <;> rw [hspec]
    · exact ⟨_, locate_full hres, rfl⟩
    · exact ⟨_, locate_onlyExtraDigit hres, rfl⟩
  obtain ⟨u, hlocate, hrmOperand⟩ := hoperand
  have hcheck := hrmOperand ▸ checkOperand_register hrm (rmOf m) (regOf m) u
  rw [step_of_dispatches hd, runInstruction_of_checkOperand_fault hfits hlocate hcheck, Res.toOutcome_fault]

end Sys2Proof.Machine

/-! PROOFS. Terminal faults come from dispatch cycles alone (60_exceptions.md R275, R291): no operation of the block raises one,
and a queue without cycles stays so. -/

namespace Sys2Proof.Machine

/-! ### No operation of the block faults (R275) -/

/-- The operation does not end in a terminal fault. -/
def Res.NeverFaults {α : Type} : Res α → Prop
  | .ok _ _ => True
  | .pageFault _ _ _ => True
  | .fault _ => False
  | .refused _ => True

theorem Res.NeverFaults.bind {α β : Type} {r : Res α} {f : α → State → Res β} (hr : r.NeverFaults)
    (hf : ∀ a s, (f a s).NeverFaults) : (r.bind f).NeverFaults := by
  cases r with
  | ok a s => exact hf a s
  | pageFault | refused => trivial
  | fault => exact hr.elim

theorem Res.NeverFaults.toOutcome {α : Type} {r : Res α} (hr : r.NeverFaults) (k : α → State → State) (f : Fault) :
    r.toOutcome k ≠ .fault f := by
  cases r with
  | ok | pageFault | refused => exact nofun
  | fault => exact hr.elim

theorem OnlyConsumes.neverFaults {α : Type} {f : State → Res α} (hf : OnlyConsumes f) (s : State) : (f s).NeverFaults := by
  rcases hf s with ⟨_, _, h, -⟩ | h <;> rw [h] <;> trivial

theorem skipBytes_neverFaults (n : Nat) (s : State) : (skipBytes n s).NeverFaults := by
  rcases skipBytes_onlyAdvances (n := n) s with h | h <;> rw [h] <;> trivial

theorem physRead_neverFaults (p : Word) (n : Nat) (s : State) : (physRead p n s).NeverFaults := by
  unfold physRead
  split_ifs <;> trivial

theorem physWrite_neverFaults (p : Word) (bs : List Byte) (s : State) : (physWrite p bs s).NeverFaults := by
  unfold physWrite
  split_ifs <;> trivial

theorem loadBytes_neverFaults (p : Word) (n : Nat) (s : State) : (loadBytes p n s).NeverFaults := by
  unfold loadBytes
  split_ifs
  · trivial
  · exact physRead_neverFaults p n s

theorem storeBytes_neverFaults (p : Word) (bs : List Byte) (s : State) : (storeBytes p bs s).NeverFaults := by
  unfold storeBytes
  split_ifs
  · trivial
  · exact physWrite_neverFaults p bs s

theorem readEntry_neverFaults (a : Word) (s : State) : (readEntry a s).NeverFaults :=
  (physRead_neverFaults a 4 s).bind fun _ _ => trivial

/-- An entry that is not present is a PageFault, no terminal fault (R233, R291). -/
theorem walk_neverFaults (l : Word) (kind : AccessKind) (s : State) : (walk l kind s).NeverFaults := by
  refine (readEntry_neverFaults _ _).bind fun pde s => ?_
  split_ifs
  · refine (readEntry_neverFaults _ _).bind fun pte s => ?_
    split_ifs <;> trivial
  · trivial

theorem translate_neverFaults (l : Word) (kind : AccessKind) (s : State) : (translate l kind s).NeverFaults := by
  unfold translate
  split_ifs
  · trivial
  · split
    · trivial
    · exact walk_neverFaults l kind s

theorem readByteByByte_neverFaults (kind : AccessKind) (n : Nat) (l : Word) (s : State) :
    (readByteByByte kind n l s).NeverFaults := by
  induction n generalizing l s with
  | zero => trivial
  | succ n ih =>
    exact (translate_neverFaults l kind s).bind fun p s => (loadBytes_neverFaults p 1 s).bind fun _ s =>
      (ih (l + 1) s).bind fun _ _ => trivial

theorem writeByteByByte_neverFaults (bs : List Byte) (l : Word) (s : State) : (writeByteByByte bs l s).NeverFaults := by
  induction bs generalizing l s with
  | nil => trivial
  | cons b bs ih =>
    exact (translate_neverFaults l .write s).bind fun p s => (storeBytes_neverFaults p [b] s).bind fun _ s => ih (l + 1) s

theorem memRead_neverFaults (l : Word) (n : Nat) (kind : AccessKind) (s : State) : (memRead l n kind s).NeverFaults := by
  unfold memRead
  split_ifs
  · exact readByteByByte_neverFaults kind n l s
  · exact (translate_neverFaults l kind s).bind fun p s => loadBytes_neverFaults p n s

theorem memWrite_neverFaults (l : Word) (bs : List Byte) (s : State) : (memWrite l bs s).NeverFaults := by
  unfold memWrite
  split_ifs
  · exact writeByteByByte_neverFaults bs l s
  · exact (translate_neverFaults l .write s).bind fun p s => storeBytes_neverFaults p bs s

theorem fetchWindow_neverFaults (l : Word) (s : State) : (fetchWindow l s).NeverFaults :=
  (memRead_neverFaults l windowLen .instructionFetch s).bind fun _ _ => trivial

theorem writePdBase_neverFaults (v : Word) (s : State) : (writePdBase v s).NeverFaults := by
  unfold writePdBase
  split_ifs <;> trivial

/-- Each instruction ends as the operation it runs. -/
theorem exec_ne_fault (i : Instr) (s : State) (f : Fault) : exec i s ≠ .fault f := by
  rcases exec_cases i s with ⟨len, loc, reg, he⟩ | ⟨mod, reg, he⟩ | ⟨g, he, -⟩ |
    rfl | rfl | rfl | rfl | rfl | rfl | rfl | rfl | rfl
  · exact he ▸ (skipBytes_neverFaults len s).toOutcome _ f
  · have hescape : ((skipBytes 1 s).bind fun _ t => resolveEscape mod reg t).NeverFaults :=
      (skipBytes_neverFaults 1 s).bind fun _ t => (resolveEscape_onlyConsumes mod reg).neverFaults t
    exact he ▸ hescape.toOutcome _ f
  · exact he ▸ (skipBytes_neverFaults 1 s).toOutcome _ f
  · exact (resolve_onlyConsumes.neverFaults s).toOutcome _ f
  · exact (translate_neverFaults _ _ s).toOutcome _ f
  · exact (memRead_neverFaults _ _ _ s).toOutcome _ f
  · exact (memWrite_neverFaults _ _ s).toOutcome _ f
  · exact (fetchWindow_neverFaults _ s).toOutcome _ f
  · exact (writePdBase_neverFaults _ s).toOutcome _ f
  all_goals exact nofun

/-! ### Requests other than dispatch cycles (R291) -/

/-- A source runs one instruction, on a state with the same queue, or is refused. -/
theorem runSource_cases (src : Source) (s : State) :
    (∃ i t, t.requests = s.requests ∧ runSource src s = exec i t) ∨ ∃ r, runSource src s = .refused r := by
  have hargs : (presentArguments src s).requests = s.requests := by cases src <;> rfl
  unfold runSource
  split
  · next i _ _ =>
    split_ifs
    · exact .inl ⟨i, _, hargs, rfl⟩
    · exact .inr ⟨_, rfl⟩
  · exact .inr ⟨_, rfl⟩

theorem applyCollaborator_ne_fault (w : CollaboratorWrite) (s : State) (f : Fault) : applyCollaborator w s ≠ .fault f := by
  cases w with
  | load p bytes => exact (physWrite_neverFaults p bytes s).toOutcome _ f
  | gpr | segBase | ip | flags | decodeContext => exact nofun

theorem applyCollaborator_requests {w : CollaboratorWrite} {s t : State} (h : applyCollaborator w s = .next t) :
    t.requests = s.requests := by
  cases w with
  | load p bytes =>
    rw [applyCollaborator, physWrite] at h
    split_ifs at h <;> cases h
    rfl
  | gpr | segBase | ip | flags | decodeContext => cases h; rfl

theorem exec_requests {i : Instr} {s t : State} (h : exec i s = .next t) : t.requests = s.requests := by
  obtain ⟨-, -, -, -, -, -, hrequests, -⟩ := execFrame i s t h
  exact hrequests

/-- A request that is no cycle does not fault and leaves the queue. -/
theorem serve_of_not_cycle {r : Request} (hr : ∀ answer, r ≠ .cycle answer) (s : State) :
    (∀ f, serve r s ≠ .fault f) ∧ ∀ {t}, serve r s = .next t → t.requests = s.requests := by
  cases r with
  | decode src =>
    rcases runSource_cases src s with ⟨i, u, hu, h⟩ | ⟨x, h⟩ <;> rw [serve, h]
    · exact ⟨exec_ne_fault i u, fun hnext => (exec_requests hnext).trans hu⟩
    · exact ⟨nofun, nofun⟩
  | cycle answer => exact absurd rfl (hr answer)
  | collaborator w => exact ⟨applyCollaborator_ne_fault w s, applyCollaborator_requests⟩

/-- None of the pending requests is a dispatch cycle. -/
def NoCycles (s : State) : Prop := ∀ r ∈ s.requests, ∀ answer, r ≠ .cycle answer

/-- A step of a queue without cycles does not fault and leaves one without. -/
theorem step_of_noCycles {s : State} (hs : NoCycles s) :
    (∀ f, step s ≠ .fault f) ∧ ∀ {t}, step s = .next t → NoCycles t := by
  cases hreq : s.requests with
  | nil =>
    rw [step, hreq]
    refine ⟨nofun, fun h => ?_⟩
    cases h
    exact hs
  | cons r rest =>
    rw [NoCycles, hreq] at hs
    obtain ⟨hfault, hqueue⟩ := serve_of_not_cycle (hs r (.head _)) (s.setRequests rest)
    rw [step_of_request hreq]
    refine ⟨hfault, fun {t} hnext x hx => hs x (.tail _ ?_)⟩
    rwa [hqueue hnext] at hx

theorem safeRun_of_noCycles {s : State} (hs : NoCycles s) : SafeRun s := by
  intro k
  induction k generalizing s with
  | zero =>
    rintro t f rfl
    exact (step_of_noCycles hs).1 f
  | succ k ih =>
    rintro t f ⟨m, hm, hreached⟩
    exact ih ((step_of_noCycles hs).2 hm) t f hreached

/-- Settles O58: no instruction faults, and along the run the queue keeps free of cycles. -/
theorem onlyCyclesRaiseTerminalFaults : Obligations.OnlyCyclesRaiseTerminalFaults :=
  ⟨exec_ne_fault, fun _ hs => safeRun_of_noCycles hs⟩

end Sys2Proof.Machine

/-! PROOFS. A write-back that raises PageFault keeps what the write-backs before it stored (60_exceptions.md R280, R281, R317): the
relations of the statements as runs of the operand protocol, and the step of a cycle whose operands have been read. -/

namespace Sys2Proof.Machine

open Sys2Proof.Claims

/-! ### The relations of the statements are runs of the protocol -/

/-- The statements say "not a pure output" for what is read, and "not a pure input" for what is written back (R262). -/
theorem ite_reads {α : Type} (dir : Direction) (a b : α) :
    (if dir.reads then a else b) = if dir = .output then b else a := by
  cases dir <;> rfl

theorem ite_writes {α : Type} (dir : Direction) (a b : α) :
    (if dir.writes then a else b) = if dir = .input then b else a := by
  cases dir <;> rfl

theorem loadOperand_of_loads {loc : Location} {w : Width} {dir : Direction} {value : Option Nat} {s t : State}
    (h : loads loc w dir value s t) : loadOperand w dir loc s = .ok value t := by
  unfold loads at h
  rw [loadOperand, ite_reads]
  split_ifs at h ⊢
  · obtain ⟨rfl, rfl⟩ := h
    rfl
  · cases loc with
    | register i =>
      obtain ⟨width, hw, rfl, rfl⟩ := h
      rw [readLocation, hw]
      rfl
    | memory seg offset linear =>
      obtain ⟨bytes, hread, rfl⟩ := h
      rw [readLocation, hread]
      rfl

theorem storeOperand_of_ne_input {dir : Direction} (hdir : dir ≠ .input) (w : Width) (loc : Location) (v : Nat)
    (s : State) : storeOperand w dir loc v s = writeLocation w loc v s := by
  rw [storeOperand, ite_writes, if_neg hdir]

theorem storeOperand_of_stores {loc : Location} {w : Width} {dir : Direction} {v : Nat} {s t : State}
    (h : stores loc w dir v s t) : storeOperand w dir loc v s = .ok () t := by
  unfold stores at h
  rw [storeOperand, ite_writes]
  split_ifs at h ⊢
  · rw [h]
  · cases loc with
    | register i =>
      obtain ⟨width, hw, rfl⟩ := h
      rw [writeLocation, hw]
    | memory seg offset linear => exact h

theorem loadImplicits_of_implicitLoads {os : List ImplicitOperand} {vs : List (Option Nat)} {s t : State}
    (h : implicitLoads os vs s t) : loadImplicits os s = .ok vs t := by
  induction os generalizing vs s with
  | nil =>
    obtain ⟨rfl, rfl⟩ := h
    rfl
  | cons o os ih =>
    cases vs with
    | nil => exact h.elim
    | cons v vs =>
      obtain ⟨mid, hload, hrest⟩ := h
      rw [← o.location_eq (s := s) rfl] at hload
      rw [loadImplicits, loadOperand_of_loads hload, Res.bind_ok, ih hrest, Res.bind_ok]

theorem storeImplicits_of_implicitStores {os : List ImplicitOperand} {vs : List Nat} {s t : State}
    (h : implicitStores os vs s t) : storeImplicits os vs s = .ok () t := by
  induction os generalizing vs s with
  | nil =>
    cases h
    rfl
  | cons o os ih =>
    cases vs with
    | nil =>
      cases h
      rfl
    | cons v vs =>
      obtain ⟨mid, hstore, hrest⟩ := h
      rw [← o.location_eq (s := s) rfl] at hstore
      rw [storeImplicits, storeOperand_of_stores hstore, Res.bind_ok, ih hrest]

/-- An r/m operand that is read has passed the check, and the read is the protocol's. -/
theorem loadRm_of_operandLoads {rm : Option RmOperand} {loc : Option (Location × RegIdx)} {value : Option Nat}
    {s t : State} (h : operandLoads rm loc value s t) :
    (∀ u, checkOperand rm loc u = .ok () u) ∧ loadRm rm loc s = .ok value t := by
  unfold operandLoads at h
  split at h
  · obtain ⟨rfl, rfl⟩ := h
    exact ⟨fun _ => rfl, rfl⟩
  · obtain ⟨rfl, rfl⟩ := h
    exact ⟨fun _ => rfl, rfl⟩
  · next kind w dir l reg =>
    obtain ⟨hallows, hload⟩ := h
    refine ⟨fun u => ?_, loadOperand_of_loads hload⟩
    cases l with
    | register i =>
      cases kind with
      | memoryOnly => exact hallows.elim
      | registerOnly | registerOrMemory => rfl
    | memory seg offset linear =>
      cases kind with
      | registerOnly => exact hallows.elim
      | memoryOnly | registerOrMemory => rfl
  · exact h.elim

/-! ### Register write-backs (R90, R262) -/

theorem storeFixed_eq (os : List FixedOperand) (vs : List Nat) (s : State) : storeFixed os vs s =
    (os.zip vs).foldl (fun t p => if p.1.dir = .input then t else writeReg p.1.width p.1.index p.2 t) s := by
  induction os generalizing vs s with
  | nil => rfl
  | cons o os ih =>
    cases vs with
    | nil => rfl
    | cons v vs =>
      rw [storeFixed, ih, ite_writes, List.zip_cons_cons, List.foldl_cons]

theorem storeRegisters_eq (d : Descriptor) (h : HandlerAnswer) (loc : Option (Location × RegIdx)) (s : State) :
    storeRegisters d h loc s = registersWrittenBack d h loc s := by
  unfold storeRegisters registersWrittenBack storeRegField
  rw [storeFixed_eq]
  cases d.specifier with
  | full w dir rm =>
    cases loc with
    | none => rfl
    | some found => exact ite_writes dir _ _
  | none | memoryOffset | onlyExtraDigit => rfl

/-! ### Immediates (R98, R260) -/

theorem fetchImmediate_of_append {w : RegWidth} {s : State} {disp left : List Byte} (hlen : disp.length = w.bytes)
    (hdrop : s.win.drop s.cursor = disp ++ left) :
    fetchImmediate w s = .ok (leValue disp) (s.setCursor (s.cursor + w.bytes)) := by
  have hvalue : leValue disp % 256 ^ w.bytes = leValue disp := Nat.mod_eq_of_lt (hlen ▸ leValue_lt disp)
  cases w with
  | one =>
    rw [fetchImmediate, fetch8_of_append hlen hdrop, Res.bind_ok, BitVec.toNat_ofNat]
    exact congrArg (Res.ok · _) hvalue
  | two =>
    rw [fetchImmediate, fetch16_of_append hlen hdrop, Res.bind_ok, BitVec.toNat_ofNat]
    exact congrArg (Res.ok · _) hvalue
  | four =>
    rw [fetchImmediate, fetch32_of_append hlen hdrop, Res.bind_ok, BitVec.toNat_ofNat]
    exact congrArg (Res.ok · _) hvalue

theorem fetchImmediates_of_append {ws : List RegWidth} {s : State} {imm left : List Byte}
    (hlen : imm.length = immediateBytes ws) (hdrop : s.win.drop s.cursor = imm ++ left) :
    fetchImmediates ws s = .ok (immediateValues ws imm) (s.setCursor (s.cursor + imm.length)) := by
  induction ws generalizing s imm with
  | nil =>
    obtain rfl := List.length_eq_zero_iff.mp hlen
    rfl
  | cons w ws ih =>
    rw [immediateBytes, List.map_cons, List.sum_cons] at hlen
    have htake : (imm.take w.bytes).length = w.bytes := List.length_take_of_le (by omega)
    have hrest : (imm.drop w.bytes).length = immediateBytes ws := by
      rw [List.length_drop, hlen, Nat.add_sub_cancel_left]
      rfl
    rw [← imm.take_append_drop w.bytes, List.append_assoc] at hdrop
    have hnext := drop_add_of_drop hdrop
    rw [htake] at hnext
    rw [fetchImmediates, fetchImmediate_of_append htake hdrop, Res.bind_ok,
      ih (s := s.setCursor (s.cursor + w.bytes)) hrest hnext, Res.bind_ok, immediateValues]
    refine congrArg (Res.ok _) (congrArg s.setCursor ?_)
    rw [hrest, hlen, ← Nat.add_assoc]
    rfl

/-! ### A cycle with its operands read -/

theorem CursorMoved.sameContext {s t : State} (h : CursorMoved s t) : SameContext s t := by
  obtain ⟨c, rfl⟩ := h
  exact ⟨rfl, rfl, rfl, rfl, rfl, rfl, rfl, rfl, rfl, rfl⟩

/-- The phases of the cycle up to the handler have completed, with what the statement says was found and read. -/
theorem exists_loaded_of_operandsRead {s v : State} {d : Descriptor} {h : HandlerAnswer} {rest : List Request}
    {loc : Option (Location × RegIdx)} {imm : List Byte} {implicit : List (Option Nat)} {rm : Option Nat}
    (hread : operandsRead s d h rest loc imm implicit rm v) :
    ∃ win t u, dispatches s d h rest win t ∧ findOperands d t = .ok (loc, immediateValues d.immediates imm) u ∧
      loadOperands d loc u = .ok (implicit, rm) v := by
  obtain ⟨win, left, t, u, mid, hd, hlen, hlocated, hdrop, himm, himplicit, hrm⟩ := hread
  have ⟨_, hfetched, _⟩ := hd
  obtain ⟨hcheck, hload⟩ := loadRm_of_operandLoads hrm
  have hcursor : t.cursor + d.opcodeLen = d.opcodeLen := by rw [fetched_cursor hfetched, Nat.zero_add]
  have hlocate : locate d.specifier (t.setCursor (t.cursor + d.opcodeLen)) = .ok loc u := by
    rw [hcursor]
    exact locate_of_located hlocated
  refine ⟨win, t, u.setCursor (u.cursor + imm.length), hd, ?_, ?_⟩
  · rw [findOperands, skipBytes_eq (hcursor.le.trans hlen), Res.bind_ok, hlocate, Res.bind_ok, hcheck, Res.bind_ok,
      fetchImmediates_of_append himm hdrop, Res.bind_ok]
  · change implicitLoads _ _ (u.setCursor _) _ at himplicit
    rw [loadOperands, loadImplicits_of_implicitLoads himplicit, Res.bind_ok, hload, Res.bind_ok]

section

variable {s v : State} {d : Descriptor} {h : HandlerAnswer} {rest : List Request} {loc : Option (Location × RegIdx)}
  {imm : List Byte} {implicit : List (Option Nat)} {rm : Option Nat} (hread : operandsRead s d h rest loc imm implicit rm v)

include hread

theorem operandsRead_sameContext : SameContext { s with requests := rest } v := by
  obtain ⟨win, t, u, ⟨_, hfetched, -⟩, hfind, hload⟩ := exists_loaded_of_operandsRead hread
  have hfound : CursorMoved t u := (findOperands_cursorMoved d t).of_eq_ok hfind
  exact ((fetched_sameContext hfetched).trans hfound.sameContext).trans
    ((loadOperands_frame d loc u).1 hload).toWrite.sameContext

variable (hbases : basesAligned h)

include hbases

/-- What is left of the cycle are the write-backs, then IP and epilog. -/
theorem step_of_operandsRead : step s =
    ((storeOperands d h loc (afterHandler h v)).bind fun _ x =>
      .ok (handedValues d (loc, immediateValues d.immediates imm) (implicit, rm) v) (epilog x.advanceIp)).toOutcome
      fun values x => x.setOut (.operands values) := by
  obtain ⟨win, t, u, hd, hfind, hload⟩ := exists_loaded_of_operandsRead hread
  rw [step_of_dispatches hd, runInstruction_phases, hfind, Res.bind_ok, hload, Res.bind_ok, finishInstruction,
    applyHandler_eq hbases, Res.bind_ok]

theorem operandsRead_sameContext_of_storeFrame {z : State} (hstored : StoreFrame (afterHandler h v) z) :
    SameContext { s with requests := rest } z :=
  ((operandsRead_sameContext hread).trans (afterHandler_sameContext hbases v)).trans hstored.sameContext

/-- A `MemWrite` whose PageFault is that of the write-backs stops the cycle; it has stored to its own targets alone. -/
theorem stopsIn_of_storeFault {y z : State} {l a : Word} {kind : AccessKind} {bytes : List Byte}
    (hwrite : memWrite l bytes y = .pageFault a kind z)
    (hstore : storeOperands d h loc (afterHandler h v) = .pageFault a kind z) : stopsIn s y z l a kind bytes := by
  obtain ⟨rfl, hframe⟩ := storeOperands_pageFault hstore
  have hstep := step_of_operandsRead hread hbases
  rw [hstore, Res.bind_pageFault, Res.toOutcome_pageFault] at hstep
  have hstored := memWrite_storesOnly l bytes y
  rw [hwrite] at hstored
  exact ⟨rfl, hstep, (operandsRead_sameContext_of_storeFrame hread hbases hframe).ip, hstored.read⟩

theorem stopsIn_rm {y z : State} {l a : Word} {kind : AccessKind} {allowed : LocationKind} {w : Width} {dir : Direction}
    {seg : Seg} {offset : Word} {reg : RegIdx} (hrm : rmOperand d.specifier = some (.location allowed w dir))
    (hdir : dir ≠ .input) (hloc : loc = some (.memory seg offset l, reg))
    (hstores : implicitStores d.implicit h.implicit (registersWrittenBack d h loc (afterHandler h v)) y)
    (hwrite : memWrite l (leBytes w.bytes h.rm) y = .pageFault a kind z) :
    stopsIn s y z l a kind (leBytes w.bytes h.rm) := by
  refine stopsIn_of_storeFault hread hbases hwrite ?_
  rw [storeOperands, storeRegisters_eq, storeImplicits_of_implicitStores hstores, Res.bind_ok, hrm, hloc, storeRm,
    storeOperand_of_ne_input hdir]
  exact hwrite

theorem stopsIn_implicit {y z : State} {l a : Word} {kind : AccessKind} {before after : List ImplicitOperand}
    {o : ImplicitOperand} {vs ws : List Nat} {value : Nat} (hos : d.implicit = before ++ o :: after)
    (hvs : h.implicit = vs ++ value :: ws) (hlen : vs.length = before.length) (hdir : o.dir ≠ .input)
    (hloc : implicitAt s o = .memory o.seg o.offset l)
    (hstores : implicitStores before vs (registersWrittenBack d h loc (afterHandler h v)) y)
    (hwrite : memWrite l (leBytes o.width.bytes value) y = .pageFault a kind z) :
    stopsIn s y z l a kind (leBytes o.width.bytes value) := by
  refine stopsIn_of_storeFault hread hbases hwrite ?_
  have hbefore := storeImplicits_of_implicitStores hstores
  have hstored : StoreFrame (afterHandler h v) y := by
    obtain ⟨g, hg⟩ := storeRegisters_gpr d h loc (afterHandler h v)
    rw [← storeRegisters_eq, hg] at hbefore
    exact (StoreFrame.of_gpr _ g).trans ((storeImplicits_frame before vs _).1 hbefore)
  have hplace : o.location y = .memory o.seg o.offset l :=
    (o.location_eq (operandsRead_sameContext_of_storeFrame hread hbases hstored).segBase).trans hloc
  have hfault : storeOperand o.width o.dir (o.location y) value y = .pageFault a kind z := by
    rw [hplace, storeOperand_of_ne_input hdir]
    exact hwrite
  rw [storeOperands, storeRegisters_eq, hos, hvs, storeImplicits_append hlen.symm, hbefore, Res.bind_ok, storeImplicits,
    hfault, Res.bind_pageFault, Res.bind_pageFault]

end

/-- Settles O60: the write-backs before the faulting one have completed, it raises the cycle's PageFault, and it stores to its own
targets alone. -/
theorem faultingWriteBackKeepsEarlierOnes : Obligations.FaultingWriteBackKeepsEarlierOnes := by
  intro s v y z d h rest loc imm implicit rm l a kind hread hbases
  exact ⟨fun _ _ _ _ _ _ hrm hdir hloc => stopsIn_rm hread hbases hrm hdir hloc,
    fun _ _ _ _ _ _ hos hvs hlen hdir hloc => stopsIn_implicit hread hbases hos hvs hlen hdir hloc⟩

end Sys2Proof.Machine

/-! PROOFS. Decoder and encoder agree (30_encoding.md R91 to R95, R101, R106, R108): which row each encoded instruction is, what
the encoder writes for it, and what a decoder has read when it answers. -/

namespace Sys2Proof.Machine

open Sys2Proof.Claims

/-! ### What the encoder writes -/

theorem encode_of_modrmFields {i : Instr} {f : ModrmFields} (h : i.modrmFields = some f) :
    encode i = .stream (if f.addressSize32 then .m32 else .m16) (modrmByte f.mod f.reg f.rm :: f.disp) := by
  rw [encode, h]

theorem encode_of_sibFields {i : Instr} {f : SibFields} (h : i.sibFields = some f) :
    encode i = .stream .m32s (modrmByte f.mod f.reg 4 :: sibByte f.scale f.index f.base :: f.disp) := by
  cases i <;> cases h <;> rfl

theorem encode_of_prefixByte {i : Instr} {b : Byte} (h : i.prefixByte = some b) : encode i = .stream .pfx [b] := by
  cases i <;> cases h <;> rfl

theorem encode_of_portCode {i : Instr} {code : BitVec 4} (h : i.portCode = some code) : encode i = .port code := by
  cases i <;> cases h <;> rfl

/-- Every instruction is a row of one of the formats, or a port operation (R108). -/
theorem hasEncoding (i : Instr) :
    (i.modrmFields.isSome || i.sibFields.isSome || i.prefixByte.isSome || i.portCode.isSome) = true := by
  cases i <;> rfl

/-! ### The row of an M16 or M32 instruction -/

/-- The M16 and M32 rows by their fields, one case for each of the decoder's matrices and each form outside them. -/
inductive ModrmForm : ModrmFields → Instr → Prop
  | mod0A16 {rm : RegIdx} {form : RegIdx → Instr} (hform : form16M0 rm = some form) (reg : RegIdx) :
      ModrmForm ⟨false, 0, rm, reg, []⟩ (form reg)
  | mod0DispA16 (reg : RegIdx) (d : BitVec 16) : ModrmForm ⟨false, 0, 6, reg, bytes16 d⟩ (.a16M0Rm6 reg d)
  | mod1A16 (rm reg : RegIdx) (d : BitVec 8) : ModrmForm ⟨false, 1, rm, reg, [d]⟩ (form16M1 rm reg d)
  | mod2A16 (rm reg : RegIdx) (d : BitVec 16) : ModrmForm ⟨false, 2, rm, reg, bytes16 d⟩ (form16M2 rm reg d)
  | registerA16 (reg rm : RegIdx) : ModrmForm ⟨false, 3, rm, reg, []⟩ (.a16Reg reg rm)
  | mod0A32 {rm : RegIdx} {form : RegIdx → Instr} (hform : form32M0 rm = some form) (reg : RegIdx) :
      ModrmForm ⟨true, 0, rm, reg, []⟩ (form reg)
  | mod0DispA32 (reg : RegIdx) (d : BitVec 32) : ModrmForm ⟨true, 0, 5, reg, bytes32 d⟩ (.a32M0Rm5 reg d)
  | mod1A32 {rm : RegIdx} {form : RegIdx → BitVec 8 → Instr} (hform : form32M1 rm = some form) (reg : RegIdx)
      (d : BitVec 8) : ModrmForm ⟨true, 1, rm, reg, [d]⟩ (form reg d)
  | mod1Escape (reg : RegIdx) : ModrmForm ⟨true, 1, 4, reg, []⟩ (.a32SibM1 reg)
  | mod2A32 {rm : RegIdx} {form : RegIdx → BitVec 32 → Instr} (hform : form32M2 rm = some form) (reg : RegIdx)
      (d : BitVec 32) : ModrmForm ⟨true, 2, rm, reg, bytes32 d⟩ (form reg d)
  | mod2Escape (reg : RegIdx) : ModrmForm ⟨true, 2, 4, reg, []⟩ (.a32SibM2 reg)
  | registerA32 (reg rm : RegIdx) : ModrmForm ⟨true, 3, rm, reg, []⟩ (.a32Reg reg rm)

/-- An instruction with ModR/M fields stands in one of the matrices at its rm, or is a form outside them. -/
theorem modrmForm_of_modrmFields {i : Instr} {f : ModrmFields} (h : i.modrmFields = some f) : ModrmForm f i := by
  cases i <;> cases h
  all_goals constructor
  all_goals rfl

theorem withDisp16_bytes16 (f : BitVec 16 → Instr) (d : BitVec 16) (rest : List Byte) :
    withDisp16 f (bytes16 d ++ rest) = .ok (f d) rest :=
  congrArg (fun v => Decoded.ok (f v) rest) (le16_bytes16 d)

/-- The bytes with the fields of an M16 or M32 instruction decode to it. -/
theorem ModrmForm.decode {f : ModrmFields} {i : Instr} (h : ModrmForm f i) (rest : List Byte) :
    decode (if f.addressSize32 then .m32 else .m16) (modrmByte f.mod f.reg f.rm :: (f.disp ++ rest)) = .ok i rest := by
  obtain ⟨hmod, hreg, hrm⟩ := modrmByte_fields f.mod f.reg f.rm
  cases h with
  | mod0A16 hform reg => exact (decodeM16_mod0 rest hmod ((congrArg form16M0 hrm).trans hform)).trans (by rw [hreg])
  | mod0DispA16 reg d => exact (decodeM16_mod0_disp _ hmod hrm).trans (by rw [hreg, withDisp16_bytes16])
  | mod1A16 rm reg d => exact (decodeM16_mod1 _ hmod).trans (by rw [hreg, hrm]; rfl)
  | mod2A16 rm reg d => exact (decodeM16_mod2 _ hmod).trans (by rw [hreg, hrm, withDisp16_bytes16])
  | registerA16 reg rm => exact (decodeM16_mod3 rest hmod).trans (by rw [hreg, hrm])
  | mod0A32 hform reg => exact (decodeM32_mod0 rest hmod ((congrArg form32M0 hrm).trans hform)).trans (by rw [hreg])
  | mod0DispA32 reg d => exact (decodeM32_mod0_disp _ hmod hrm).trans (by rw [hreg, withDisp32_bytes32])
  | mod1A32 hform reg d => exact (decodeM32_mod1 _ hmod ((congrArg form32M1 hrm).trans hform)).trans (by rw [hreg]; rfl)
  | mod1Escape reg => exact (decodeM32_mod1_escape rest hmod hrm).trans (by rw [hreg])
  | mod2A32 hform reg d =>
    exact (decodeM32_mod2 _ hmod ((congrArg form32M2 hrm).trans hform)).trans (by rw [hreg, withDisp32_bytes32])
  | mod2Escape reg => exact (decodeM32_mod2_escape rest hmod hrm).trans (by rw [hreg])
  | registerA32 reg rm => exact (decodeM32_mod3 rest hmod).trans (by rw [hreg, hrm])

/-! ### Decoding what the encoder writes -/

theorem decodePrefix_of_prefixByte {i : Instr} {b : Byte} (h : i.prefixByte = some b) (rest : List Byte) :
    decodePrefix (b :: rest) = .ok i rest := by
  cases i <;> cases h <;> rfl

theorem decodePort_of_portCode {i : Instr} {code : BitVec 4} (h : i.portCode = some code) :
    decodePort code = .ok i [] := by
  cases i <;> cases h <;> rfl

theorem decodeM32s_of_sibFields {i : Instr} {f : SibFields} (h : i.sibFields = some f) (rest : List Byte) :
    decodeM32s (modrmByte f.mod f.reg 4 :: sibByte f.scale f.index f.base :: (f.disp ++ rest)) = .ok i rest := by
  have hform := sibForm_of_sibFields h
  obtain ⟨hmod, -, hrm⟩ := modrmByte_fields f.mod f.reg 4
  have hrange : f.mod = 0 ∨ f.mod = 1 ∨ f.mod = 2 := by cases hform <;> simp
  rw [decodeM32s, if_pos (isSibEscape_of_fields hrange hmod hrm), hform.decodeSib]

/-- Settles O53: by the kind of word the instruction has, which its row gives back. -/
theorem decodeOfEncode : Obligations.DecodeOfEncode := by
  intro i rest
  cases hm : i.modrmFields with
  | some f => rw [encode_of_modrmFields hm]; exact (modrmForm_of_modrmFields hm).decode rest
  | none =>
  cases hs : i.sibFields with
  | some f => rw [encode_of_sibFields hs]; exact decodeM32s_of_sibFields hs rest
  | none =>
  cases hp : i.prefixByte with
  | some b => rw [encode_of_prefixByte hp]; exact decodePrefix_of_prefixByte hp rest
  | none =>
  cases hc : i.portCode with
  | some code => rw [encode_of_portCode hc]; exact decodePort_of_portCode hc
  | none =>
    have henc := hasEncoding i
    rw [hm, hs, hp, hc] at henc
    cases henc

/-! ### What a decoder has read -/

theorem withDisp8_eq_ok {f : BitVec 8 → Instr} {bs rest : List Byte} {i : Instr} (h : withDisp8 f bs = .ok i rest) :
    ∃ d, bs = [d] ++ rest ∧ i = f d := by
  unfold withDisp8 at h
  split at h <;> cases h
  exact ⟨_, rfl, rfl⟩

theorem withDisp16_eq_ok {f : BitVec 16 → Instr} {bs rest : List Byte} {i : Instr} (h : withDisp16 f bs = .ok i rest) :
    ∃ d, bs = bytes16 d ++ rest ∧ i = f d := by
  unfold withDisp16 at h
  split at h <;> cases h
  exact ⟨_, by rw [bytes16_le16]; rfl, rfl⟩

theorem withDisp32_eq_ok {f : BitVec 32 → Instr} {bs rest : List Byte} {i : Instr} (h : withDisp32 f bs = .ok i rest) :
    ∃ d, bs = bytes32 d ++ rest ∧ i = f d := by
  unfold withDisp32 at h
  split at h <;> cases h
  exact ⟨_, by rw [bytes32_le32]; rfl, rfl⟩

theorem modrmFields_form16M0 {rm : RegIdx} : ∀ {form : RegIdx → Instr}, form16M0 rm = some form → ∀ reg,
    (form reg).modrmFields = some ⟨false, 0, rm, reg, []⟩ := by
  induction rm using regIdx_induct <;> rintro form ⟨⟩ reg <;> rfl

theorem modrmFields_form16M1 (rm reg : RegIdx) (d : BitVec 8) :
    (form16M1 rm reg d).modrmFields = some ⟨false, 1, rm, reg, [d]⟩ := by
  induction rm using regIdx_induct <;> rfl

theorem modrmFields_form16M2 (rm reg : RegIdx) (d : BitVec 16) :
    (form16M2 rm reg d).modrmFields = some ⟨false, 2, rm, reg, bytes16 d⟩ := by
  induction rm using regIdx_induct <;> rfl

theorem modrmFields_form32M0 {rm : RegIdx} : ∀ {form : RegIdx → Instr}, form32M0 rm = some form → ∀ reg,
    (form reg).modrmFields = some ⟨true, 0, rm, reg, []⟩ := by
  induction rm using regIdx_induct <;> rintro form ⟨⟩ reg <;> rfl

theorem modrmFields_form32M1 {rm : RegIdx} : ∀ {form : RegIdx → BitVec 8 → Instr}, form32M1 rm = some form → ∀ reg d,
    (form reg d).modrmFields = some ⟨true, 1, rm, reg, [d]⟩ := by
  induction rm using regIdx_induct <;> rintro form ⟨⟩ reg d <;> rfl

theorem modrmFields_form32M2 {rm : RegIdx} : ∀ {form : RegIdx → BitVec 32 → Instr}, form32M2 rm = some form → ∀ reg d,
    (form reg d).modrmFields = some ⟨true, 2, rm, reg, bytes32 d⟩ := by
  induction rm using regIdx_induct <;> rintro form ⟨⟩ reg d <;> rfl

/-- Only `[d16]` stands outside the matrix of the 16-bit forms with mod = 0. -/
theorem rm_of_form16M0_none {rm : RegIdx} : form16M0 rm = none → rm = 6 := by
  induction rm using regIdx_induct <;> rintro ⟨⟩
  rfl

/-- Only `[d32]` stands outside the matrix of the 32-bit forms with mod = 0, and for mod = 1 and 2 only the SIB escape. -/
theorem rm_of_form32M0_none {rm : RegIdx} : form32M0 rm = none → rm = 5 := by
  induction rm using regIdx_induct <;> rintro ⟨⟩
  rfl

theorem rm_of_form32M1_none {rm : RegIdx} : form32M1 rm = none → rm = 4 := by
  induction rm using regIdx_induct <;> rintro ⟨⟩
  rfl

theorem rm_of_form32M2_none {rm : RegIdx} : form32M2 rm = none → rm = 4 := by
  induction rm using regIdx_induct <;> rintro ⟨⟩
  rfl

theorem mod_cases : ∀ mod : BitVec 2, mod = 0 ∨ mod = 1 ∨ mod = 2 ∨ mod = 3 := by decide

theorem decodeM16_read {m : Byte} {bs rest : List Byte} {i : Instr} (h : decodeM16 (m :: bs) = .ok i rest) :
    ∃ disp, bs = disp ++ rest ∧ i.modrmFields = some ⟨false, modOf m, rmOf m, regOf m, disp⟩ := by
  rcases mod_cases (modOf m) with hmod | hmod | hmod | hmod
  · cases hform : form16M0 (rmOf m) with
    | some form =>
      cases (decodeM16_mod0 bs hmod hform).symm.trans h
      exact ⟨[], rfl, hmod ▸ modrmFields_form16M0 hform _⟩
    | none =>
      have hrm := rm_of_form16M0_none hform
      obtain ⟨d, rfl, rfl⟩ := withDisp16_eq_ok ((decodeM16_mod0_disp bs hmod hrm).symm.trans h)
      exact ⟨_, rfl, by rw [hmod, hrm]; rfl⟩
  · obtain ⟨d, rfl, rfl⟩ := withDisp8_eq_ok ((decodeM16_mod1 bs hmod).symm.trans h)
    exact ⟨_, rfl, hmod ▸ modrmFields_form16M1 _ _ _⟩
  · obtain ⟨d, rfl, rfl⟩ := withDisp16_eq_ok ((decodeM16_mod2 bs hmod).symm.trans h)
    exact ⟨_, rfl, hmod ▸ modrmFields_form16M2 _ _ _⟩
  · cases (decodeM16_mod3 bs hmod).symm.trans h
    exact ⟨[], rfl, hmod ▸ rfl⟩

theorem decodeM32_read {m : Byte} {bs rest : List Byte} {i : Instr} (h : decodeM32 (m :: bs) = .ok i rest) :
    ∃ disp, bs = disp ++ rest ∧ i.modrmFields = some ⟨true, modOf m, rmOf m, regOf m, disp⟩ := by
  rcases mod_cases (modOf m) with hmod | hmod | hmod | hmod
  · cases hform : form32M0 (rmOf m) with
    | some form =>
      cases (decodeM32_mod0 bs hmod hform).symm.trans h
      exact ⟨[], rfl, hmod ▸ modrmFields_form32M0 hform _⟩
    | none =>
      have hrm := rm_of_form32M0_none hform
      obtain ⟨d, rfl, rfl⟩ := withDisp32_eq_ok ((decodeM32_mod0_disp bs hmod hrm).symm.trans h)
      exact ⟨_, rfl, by rw [hmod, hrm]; rfl⟩
  · cases hform : form32M1 (rmOf m) with
    | some form =>
      obtain ⟨d, rfl, rfl⟩ := withDisp8_eq_ok ((decodeM32_mod1 bs hmod hform).symm.trans h)
      exact ⟨_, rfl, hmod ▸ modrmFields_form32M1 hform _ _⟩
    | none =>
      have hrm := rm_of_form32M1_none hform
      cases (decodeM32_mod1_escape bs hmod hrm).symm.trans h
      exact ⟨[], rfl, by rw [hmod, hrm]; rfl⟩
  · cases hform : form32M2 (rmOf m) with
    | some form =>
      obtain ⟨d, rfl, rfl⟩ := withDisp32_eq_ok ((decodeM32_mod2 bs hmod hform).symm.trans h)
      exact ⟨_, rfl, hmod ▸ modrmFields_form32M2 hform _ _⟩
    | none =>
      have hrm := rm_of_form32M2_none hform
      cases (decodeM32_mod2_escape bs hmod hrm).symm.trans h
      exact ⟨[], rfl, by rw [hmod, hrm]; rfl⟩
  · cases (decodeM32_mod3 bs hmod).symm.trans h
    exact ⟨[], rfl, hmod ▸ rfl⟩

theorem decodeSib_read {m sib : Byte} {bs rest : List Byte} {i : Instr} (hm : modOf m ≠ 3)
    (h : decodeSib m sib bs = .ok i rest) :
    ∃ disp, bs = disp ++ rest ∧ i.sibFields = some ⟨modOf m, baseOf sib, indexOf sib, regOf m, scaleOf sib, disp⟩ := by
  rcases mod_cases (modOf m) with hmod | hmod | hmod | hmod
  · by_cases hbase : baseOf sib = 5
    · obtain ⟨d, rfl, rfl⟩ := withDisp32_eq_ok ((decodeSib_mod0_noBase bs hmod hbase).symm.trans h)
      exact ⟨_, rfl, by rw [hmod, hbase]; exact sibFields_sibM0B5 _ _ _ _⟩
    · obtain ⟨form, hform⟩ := sibM0_of_base (indexOf sib) hbase
      cases (decodeSib_mod0 bs hmod hform).symm.trans h
      exact ⟨[], rfl, hmod ▸ sibFields_sibM0 hform _ _⟩
  · obtain ⟨d, rfl, rfl⟩ := withDisp8_eq_ok ((decodeSib_mod1 bs hmod).symm.trans h)
    exact ⟨_, rfl, hmod ▸ sibFields_sibM1 _ _ _ _ _⟩
  · obtain ⟨d, rfl, rfl⟩ := withDisp32_eq_ok ((decodeSib_mod2 bs hmod).symm.trans h)
    exact ⟨_, rfl, hmod ▸ sibFields_sibM2 _ _ _ _ _⟩
  · exact absurd hmod hm

theorem decodePrefix_read {b : Byte} {bs rest : List Byte} {i : Instr} (h : decodePrefix (b :: bs) = .ok i rest) :
    bs = rest ∧ i.prefixByte = some b := by
  simp only [decodePrefix] at h
  split at h <;> cases h
  all_goals exact ⟨rfl, congrArg some (BitVec.eq_of_toNat_eq (Eq.symm ‹_›))⟩

/-! ### The bytes a decoder has read are the encoder's -/

/-- The fields of a ModR/M byte taken apart and put together again (R91). -/
theorem modrmByte_of_fields (m : Byte) : modrmByte (modOf m) (regOf m) (rmOf m) = m := by
  apply BitVec.eq_of_toNat_eq
  have := m.isLt
  simp only [modrmByte, toNat_append_eq, modOf, regOf, rmOf, BitVec.extractLsb'_toNat, Nat.shiftRight_eq_div_pow]
  omega

/-- The fields of a SIB byte taken apart and put together again (R93). -/
theorem sibByte_of_fields (sib : Byte) : sibByte (scaleOf sib) (indexOf sib) (baseOf sib) = sib := modrmByte_of_fields sib

/-- Settles O54: what each format has read is the ModR/M byte, the SIB byte and the displacement of the instruction's row. -/
theorem encodeOfDecode : Obligations.EncodeOfDecode := by
  intro fmt bytes rest i h
  cases bytes with
  | nil => cases fmt <;> cases h
  | cons b bs =>
    cases fmt with
    | m16 =>
      obtain ⟨disp, rfl, hfields⟩ := decodeM16_read h
      exact ⟨_, encode_of_modrmFields hfields, by rw [modrmByte_of_fields]; rfl⟩
    | m32 =>
      obtain ⟨disp, rfl, hfields⟩ := decodeM32_read h
      exact ⟨_, encode_of_modrmFields hfields, by rw [modrmByte_of_fields]; rfl⟩
    | m32s =>
      cases bs with
      | nil => cases h
      | cons sib bs =>
        rw [decode, decodeM32s] at h
        split_ifs at h with hescape
        obtain ⟨hmod, hrm⟩ := (isSibEscape_iff b).mp hescape
        obtain ⟨disp, rfl, hfields⟩ := decodeSib_read hmod h
        refine ⟨_, encode_of_sibFields hfields, ?_⟩
        rw [← hrm, modrmByte_of_fields, sibByte_of_fields]
        rfl
    | pfx =>
      obtain ⟨rfl, hbyte⟩ := decodePrefix_read h
      exact ⟨_, encode_of_prefixByte hbyte, rfl⟩

/-- Settles O55: the decoders run on each word. -/
theorem wordsDecode : Obligations.WordsDecode := ⟨rfl, rfl, rfl, rfl, rfl, rfl, rfl, rfl⟩

end Sys2Proof.Machine

/-! PROOFS. `Resolve` against the decoder (30_encoding.md R99, R100, 40_resolver16.md R120, 41_resolver32.md R150,
42_resolver32_sib.md R180): both read one specifier alike, from the window's bytes at the cursor. -/

namespace Sys2Proof.Machine

open Sys2Proof.Claims

/-! ### Consumption primitives (R98) -/

theorem fetch32_of_drop {s : State} {a b c d : Byte} {left : List Byte}
    (h : s.win.drop s.cursor = a :: b :: c :: d :: left) :
    fetch32 s = .ok (le32 a b c d) (s.setCursor (s.cursor + 4)) := by
  rw [fetch32_of_append (disp := [a, b, c, d]) rfl h, ofNat_leValue_four]

/-- Settles O19: the bytes are the window's from the cursor on, and their number is that of `leValue`. -/
theorem consumptionPrimitives : Obligations.ConsumptionPrimitives := by
  refine fun s b0 b1 b2 b3 rest => ⟨fetch8_of_drop, fun h => ?_, fun h => ?_⟩
  · rw [fetch16_of_drop h, ← ofNat_leValue_two]
    rfl
  · have hvalue : leValue [b0, b1, b2, b3] = b0.toNat + 256 * b1.toNat + 65536 * b2.toNat + 16777216 * b3.toNat := by
      simp only [leValue]
      omega
    rw [fetch32_of_drop h, ← ofNat_leValue_four, hvalue]
    rfl

/-! ### Displacements -/

/-- Decoder and resolver take one displacement of `len` bytes: the decoder from a list, the resolver from the window. -/
structure ReadsDisplacement {w : Nat} (len : Nat) (withDisp : (BitVec w → Instr) → List Byte → Decoded)
    (fetch : State → Res (BitVec w)) : Prop where
  decoded : ∀ form disp rest, disp.length = len →
    withDisp form (disp ++ rest) = .ok (form (BitVec.ofNat w (leValue disp))) rest
  rejected : ∀ form bs, bs.length < len → withDisp form bs = .reject .windowEnds
  fetched : ∀ s disp rest, disp.length = len → s.win.drop s.cursor = disp ++ rest →
    fetch s = .ok (BitVec.ofNat w (leValue disp)) (s.setCursor (s.cursor + len))
  refused : ∀ s, (s.win.drop s.cursor).length < len → fetch s = .refused .windowOverrun

/-- An operation that consumes `n` bytes is refused where fewer are left. -/
theorem Res.Consumes.refused {α : Type} {f : State → Res α} {n : Nat} {s : State} (hn : (f s).Consumes n s)
    (hf : OnlyConsumes f) (hshort : (s.win.drop s.cursor).length < n) : f s = .refused .windowOverrun := by
  rcases hf s with ⟨a, t, hok, -⟩ | hrefused
  · obtain ⟨hfits, -⟩ := hn a t hok
    rw [List.length_drop] at hshort
    omega
  · exact hrefused

theorem readsDisplacement8 : ReadsDisplacement 1 withDisp8 fetch8 where
  decoded _ _ rest hlen := withDisp8_append rest hlen
  rejected form bs hshort := by
    rw [List.length_eq_zero_iff.mp (Nat.lt_one_iff.mp hshort)]
    rfl
  fetched _ _ _ hlen hdrop := fetch8_of_append hlen hdrop
  refused s := (fetch8_consumes s).refused fetch8_onlyConsumes

theorem readsDisplacement16 : ReadsDisplacement 2 withDisp16 fetch16 where
  decoded _ _ rest hlen := withDisp16_append rest hlen
  rejected form bs hshort := by
    unfold withDisp16
    split
    · simp only [List.length_cons] at hshort; omega
    · rfl
  fetched _ _ _ hlen hdrop := fetch16_of_append hlen hdrop
  refused s := (fetch16_consumes s).refused fetch16_onlyConsumes

theorem readsDisplacement32 : ReadsDisplacement 4 withDisp32 fetch32 where
  decoded _ _ rest hlen := withDisp32_append rest hlen
  rejected form bs hshort := by
    unfold withDisp32
    split
    · simp only [List.length_cons] at hshort; omega
    · rfl
  fetched _ _ _ hlen hdrop := fetch32_of_append hlen hdrop
  refused s := (fetch32_consumes s).refused fetch32_onlyConsumes

/-! ### One specifier, read by the decoder and by the resolver -/

/-- The bytes `bs` are what is left of the window of `s` after `n` of the specifier's. -/
def Remaining (s : State) (n : Nat) (bs : List Byte) : Prop :=
  s.win.drop (s.cursor + n) = bs ∧ s.cursor + n + bs.length = windowLen

theorem Remaining.append {s : State} {n : Nat} {xs ys : List Byte} (h : Remaining s n (xs ++ ys)) :
    Remaining s (n + xs.length) ys := by
  obtain ⟨hdrop, hlen⟩ := h
  rw [List.length_append] at hlen
  exact ⟨by rw [← Nat.add_assoc]; exact drop_add_of_drop hdrop, by omega⟩

theorem Remaining.cons {s : State} {n : Nat} {b : Byte} {bs : List Byte} (h : Remaining s n (b :: bs)) :
    Remaining s (n + 1) bs :=
  Remaining.append (xs := [b]) h

/-- A resolve from `s` and a decoding of the bytes at its cursor agree: both complete, after as many bytes and with one
location, or both find that the window ends within the `maxLen` bytes a specifier can take. -/
def ReadAlike (maxLen : Nat) (s : State) (r : Res (Location × RegIdx)) : Decoded → Prop
  | .ok i rest => ∃ loc reg n, r = .ok (loc, reg) (s.setCursor (s.cursor + n)) ∧
      exec i s = .next (resolved s n loc reg) ∧ rest.length + n + s.cursor = windowLen ∧ 1 ≤ n ∧ n ≤ maxLen
  | .reject _ => r = .refused .windowOverrun ∧ windowLen < s.cursor + maxLen

section

variable {maxLen n : Nat} {s : State} {bs : List Byte} {reg : RegIdx}

/-- A form whose bytes are all read. -/
theorem readAlike_form {i : Instr} {loc : Location} (hbs : Remaining s n bs) (hn : 1 ≤ n) (hmax : n ≤ maxLen)
    (hexec : exec i s = completeForm n loc reg s) :
    ReadAlike maxLen s (.ok (loc, reg) (s.setCursor (s.cursor + n))) (.ok i bs) := by
  obtain ⟨-, hlen⟩ := hbs
  exact ⟨loc, reg, n, rfl, hexec.trans (completeForm_resolved (by omega)), by omega, hn, hmax⟩

/-- A displacement, the last part of a form. -/
theorem readAlike_disp {w len : Nat} {withDisp : (BitVec w → Instr) → List Byte → Decoded}
    {fetch : State → Res (BitVec w)} {form : BitVec w → Instr} {loc : BitVec w → Location}
    {k : BitVec w → State → Res (Location × RegIdx)} (hdisp : ReadsDisplacement len withDisp fetch)
    (hbs : Remaining s n bs) (hn : 1 ≤ n) (hmax : n + len ≤ maxLen)
    (hk : ∀ d c, k d (s.setCursor c) = .ok (loc d, reg) (s.setCursor c))
    (hexec : ∀ d, exec (form d) s = completeForm (n + len) (loc d) reg s) :
    ReadAlike maxLen s ((fetch (s.setCursor (s.cursor + n))).bind k) (withDisp form bs) := by
  have hdrop : (s.setCursor (s.cursor + n)).win.drop (s.setCursor (s.cursor + n)).cursor = bs := hbs.1
  by_cases hshort : bs.length < len
  · rw [hdisp.refused _ (by rwa [hdrop]), hdisp.rejected form bs hshort]
    obtain ⟨-, hlen⟩ := hbs
    exact ⟨rfl, by omega⟩
  · have htake : (bs.take len).length = len := List.length_take_of_le (Nat.not_lt.mp hshort)
    rw [← bs.take_append_drop len] at hdrop hbs ⊢
    have hrest := hbs.append
    rw [htake] at hrest
    rw [hdisp.fetched _ _ _ htake hdrop, hdisp.decoded _ _ _ htake, Res.bind_ok, State.setCursor_cursor, Nat.add_assoc]
    exact (hk _ _).symm ▸ readAlike_form hrest (by omega) hmax (hexec _)

end

/-- Where no byte is left, nothing is fetched and nothing decoded. -/
theorem readAlike_of_drop_nil {maxLen : Nat} {s : State} {k : Byte → State → Res (Location × RegIdx)} {e : DecodeError}
    (hwin : s.win.length = windowLen) (hdrop : s.win.drop s.cursor = []) (hmax : 1 ≤ maxLen) :
    ReadAlike maxLen s ((fetch8 s).bind k) (.reject e) := by
  have hend : s.win.length ≤ s.cursor := List.drop_eq_nil_iff.mp hdrop
  rw [readsDisplacement8.refused s (by rw [hdrop]; exact Nat.one_pos)]
  exact ⟨rfl, by omega⟩

theorem remaining_one_of_drop {s : State} {m : Byte} {bs : List Byte} (hwin : s.win.length = windowLen)
    (hdrop : s.win.drop s.cursor = m :: bs) : Remaining s 1 bs := by
  have hlen := congrArg List.length hdrop
  rw [List.length_drop, List.length_cons] at hlen
  exact ⟨drop_add_of_drop (xs := [m]) hdrop, by omega⟩

/-! ### The 16-bit address mode (R120) -/

/-- Every rm of mod = 0 but 6 has its row without displacement (R94). -/
theorem form16M0_of_rm {rm : RegIdx} (h : rm ≠ 6) : ∃ form, form16M0 rm = some form :=
  Option.ne_none_iff_exists'.mp fun hnone => h (rm_of_form16M0_none hnone)

theorem readAlike_resolve16 {s : State} (hwin : s.win.length = windowLen) :
    ReadAlike 3 s (resolve16 s) (decodeM16 (s.win.drop s.cursor)) := by
  cases hdrop : s.win.drop s.cursor with
  | nil => exact readAlike_of_drop_nil hwin hdrop (by decide)
  | cons m bs =>
    have hbs := remaining_one_of_drop hwin hdrop
    rw [resolve16, fetch8_of_drop hdrop, Res.bind_ok]
    dsimp only
    rcases mod_cases (modOf m) with hmod | hmod | hmod | hmod
    · by_cases hrm : rmOf m = 6
      · rw [if_neg (by rw [hmod]; decide), if_pos ⟨hmod, hrm⟩, decodeM16_mod0_disp bs hmod hrm]
        exact readAlike_disp readsDisplacement16 hbs le_rfl le_rfl (fun _ _ => rfl) fun _ => rfl
      · obtain ⟨form, hform⟩ := form16M0_of_rm hrm
        rw [if_neg (by rw [hmod]; decide), if_neg fun h => hrm h.2, decodeM16_mod0 bs hmod hform, hmod]
        exact readAlike_form hbs le_rfl (by decide) (exec_form16M0 hform _ s)
    · rw [if_neg (by rw [hmod]; decide), if_neg (by rw [hmod]; exact fun h => absurd h.1 (by decide)),
        decodeM16_mod1 bs hmod, hmod, addDisp16, if_pos rfl, Res.bind_assoc]
      exact readAlike_disp readsDisplacement8 hbs le_rfl (by decide) (fun _ _ => rfl) fun d => exec_form16M1 _ _ d s
    · rw [if_neg (by rw [hmod]; decide), if_neg (by rw [hmod]; exact fun h => absurd h.1 (by decide)),
        decodeM16_mod2 bs hmod, hmod, addDisp16, if_neg (by decide), if_pos rfl, Res.bind_assoc]
      exact readAlike_disp readsDisplacement16 hbs le_rfl le_rfl (fun _ _ => rfl) fun d => exec_form16M2 _ _ d s
    · rw [if_pos hmod, decodeM16_mod3 bs hmod]
      exact readAlike_form hbs le_rfl (by decide) rfl

/-! ### The 32-bit address mode (R150, R180) -/

theorem form32M0_of_rm {rm : RegIdx} (h : rm ≠ 5) : ∃ form, form32M0 rm = some form :=
  Option.ne_none_iff_exists'.mp fun hnone => h (rm_of_form32M0_none hnone)

theorem form32M1_of_rm {rm : RegIdx} (h : rm ≠ 4) : ∃ form, form32M1 rm = some form :=
  Option.ne_none_iff_exists'.mp fun hnone => h (rm_of_form32M1_none hnone)

theorem form32M2_of_rm {rm : RegIdx} (h : rm ≠ 4) : ∃ form, form32M2 rm = some form :=
  Option.ne_none_iff_exists'.mp fun hnone => h (rm_of_form32M2_none hnone)

/-- After its ModR/M byte `m` an escape is read alike from its SIB byte on. -/
theorem readAlike_escape {s : State} {m sib : Byte} {bs : List Byte} (hm : modOf m ≠ 3) (hbs : Remaining s 1 (sib :: bs)) :
    ReadAlike 6 s (resolveEscape (modOf m) (regOf m) (s.setCursor (s.cursor + 1))) (decodeSib m sib bs) := by
  have hdrop : (s.setCursor (s.cursor + 1)).win.drop (s.setCursor (s.cursor + 1)).cursor = sib :: bs := hbs.1
  rcases mod_cases (modOf m) with hmod | hmod | hmod | hmod
  · by_cases hbase : baseOf sib = 5
    · rw [decodeSib_mod0_noBase bs hmod hbase, hmod, resolveEscape, resolveSib, fetch8_of_drop hdrop, Res.bind_ok,
        if_pos ⟨hbase, rfl⟩, Res.bind_assoc]
      exact readAlike_disp readsDisplacement32 hbs.cons (by decide) le_rfl (fun _ _ => rfl) fun d => exec_sibM0B5 _ _ _ d s
    · obtain ⟨form, hform⟩ := sibM0_of_base (indexOf sib) hbase
      rw [decodeSib_mod0 bs hmod hform, hmod, resolveEscape, resolveSib_of_base hdrop fun h => hbase h.1, Res.bind_ok]
      exact readAlike_form hbs.cons (by decide) (by decide) (exec_sibM0 hform _ _ s)
  · rw [decodeSib_mod1 bs hmod, hmod, resolveEscape, resolveSib_of_base hdrop fun h => absurd h.2 (by decide),
      Res.bind_ok, addDisp32, if_pos rfl, Res.bind_assoc]
    exact readAlike_disp readsDisplacement8 hbs.cons (by decide) (by decide) (fun _ _ => rfl) fun d =>
      exec_sibM1 _ _ _ _ d s
  · rw [decodeSib_mod2 bs hmod, hmod, resolveEscape, resolveSib_of_base hdrop fun h => absurd h.2 (by decide),
      Res.bind_ok, addDisp32, if_neg (by decide), if_pos rfl, Res.bind_assoc]
    exact readAlike_disp readsDisplacement32 hbs.cons (by decide) le_rfl (fun _ _ => rfl) fun d =>
      exec_sibM2 _ _ _ _ d s
  · exact absurd hmod hm

/-- An escape stands alone at the window's end: its SIB byte would be the next one (R173). -/
def LoneEscape (s : State) : Prop := ∃ m, s.win.drop s.cursor = [m] ∧ isSibEscape m = true

theorem readAlike_resolve32 {s : State} (hwin : s.win.length = windowLen) (hlone : ¬ LoneEscape s) :
    ReadAlike 6 s (resolve32 s) (decodeSpecifier true (s.win.drop s.cursor)) := by
  cases hdrop : s.win.drop s.cursor with
  | nil => exact readAlike_of_drop_nil hwin hdrop (by decide)
  | cons m bs =>
    have hbs := remaining_one_of_drop hwin hdrop
    rw [resolve32, fetch8_of_drop hdrop, Res.bind_ok]
    dsimp only
    by_cases hreg : modOf m = 3
    · rw [if_pos hreg, decodeSpecifier_true_mod3 bs hreg, decodeM32_mod3 bs hreg]
      exact readAlike_form hbs le_rfl (by decide) rfl
    rw [if_neg hreg]
    by_cases hescape : rmOf m = 4
    · cases bs with
      | nil => exact absurd ⟨m, hdrop, (isSibEscape_iff m).mpr ⟨hreg, hescape⟩⟩ hlone
      | cons sib bs =>
        have hformat : isSibEscape m = true := (isSibEscape_iff m).mpr ⟨hreg, hescape⟩
        rw [if_pos hescape, decodeSpecifier_true_of_escape sib bs hformat, decode, decodeM32s, if_pos hformat]
        exact readAlike_escape hreg hbs
    rw [if_neg hescape, decodeSpecifier_true_of_rm bs hescape]
    rcases mod_cases (modOf m) with hmod | hmod | hmod | hmod
    · by_cases hrm : rmOf m = 5
      · rw [if_pos ⟨hmod, hrm⟩, decodeM32_mod0_disp bs hmod hrm]
        exact readAlike_disp readsDisplacement32 hbs le_rfl (by decide) (fun _ _ => rfl) fun _ => rfl
      · obtain ⟨form, hform⟩ := form32M0_of_rm hrm
        rw [if_neg fun h => hrm h.2, decodeM32_mod0 bs hmod hform, hmod, if_neg hrm]
        exact readAlike_form hbs le_rfl (by decide) (exec_form32M0 hescape hform _ s)
    · obtain ⟨form, hform⟩ := form32M1_of_rm hescape
      rw [if_neg (by rw [hmod]; exact fun h => absurd h.1 (by decide)), decodeM32_mod1 bs hmod hform, hmod, addDisp32,
        if_pos rfl, Res.bind_assoc]
      exact readAlike_disp readsDisplacement8 hbs le_rfl (by decide) (fun _ _ => rfl) fun d => exec_form32M1 hform _ d s
    · obtain ⟨form, hform⟩ := form32M2_of_rm hescape
      rw [if_neg (by rw [hmod]; exact fun h => absurd h.1 (by decide)), decodeM32_mod2 bs hmod hform, hmod, addDisp32,
        if_neg (by decide), if_pos rfl, Res.bind_assoc]
      exact readAlike_disp readsDisplacement32 hbs le_rfl (by decide) (fun _ _ => rfl) fun d => exec_form32M2 hform _ d s
    · exact absurd hmod hreg

/-! ### Resolve is the decoded form (R100) -/

/-- The bytes a specifier takes at most (R96). -/
def maxSpecifierLen (addressSize32 : Bool) : Nat := if addressSize32 then 6 else 3

theorem resolve_of_addressSize32 {s : State} (h : s.addressSize32 = true) : resolve s = resolve32 s := if_pos h

theorem resolve_of_addressSize16 {s : State} (h : s.addressSize32 = false) : resolve s = resolve16 s :=
  if_neg (by rw [h]; exact Bool.false_ne_true)

theorem readAlike_resolve {s : State} (hwin : s.win.length = windowLen)
    (hlone : s.addressSize32 = true → ¬ LoneEscape s) :
    ReadAlike (maxSpecifierLen s.addressSize32) s (resolve s)
      (decodeSpecifier s.addressSize32 (s.win.drop s.cursor)) := by
  cases hsize : s.addressSize32 with
  | true => rw [resolve_of_addressSize32 hsize]; exact readAlike_resolve32 hwin (hlone hsize)
  | false => rw [resolve_of_addressSize16 hsize, decodeSpecifier_false]; exact readAlike_resolve16 hwin

/-- An escape alone at the window's end decodes to its row of format M32, and the row resolves as `Resolve` does (R173). -/
theorem exec_resolve_of_loneEscape {s : State} (hwin : s.win.length = windowLen) (hsize : s.addressSize32 = true)
    (hlone : LoneEscape s) :
    ∃ i, decodeSpecifier s.addressSize32 (s.win.drop s.cursor) = .ok i [] ∧ exec .resolve s = exec i s := by
  obtain ⟨m, hdrop, hescape⟩ := hlone
  obtain ⟨hreg, hrm⟩ := (isSibEscape_iff m).mp hescape
  obtain ⟨-, hlen⟩ := remaining_one_of_drop hwin hdrop
  have hresolve : exec .resolve s =
      answerLocation ((skipBytes 1 s).bind fun _ t => resolveEscape (modOf m) (regOf m) t) := by
    change answerLocation (resolve s) = _
    rw [resolve_of_addressSize32 hsize, resolve32, fetch8_of_drop hdrop, Res.bind_ok, if_neg hreg, if_pos hrm,
      skipBytes_eq (by omega), Res.bind_ok]
  rw [hdrop, hsize, hresolve]
  rcases mod_cases (modOf m) with hmod | hmod | hmod | hmod
  · exact ⟨_, decodeM32_mod0_escape [] hmod hrm, by rw [hmod]; rfl⟩
  · exact ⟨_, decodeM32_mod1_escape [] hmod hrm, by rw [hmod]; rfl⟩
  · exact ⟨_, decodeM32_mod2_escape [] hmod hrm, by rw [hmod]; rfl⟩
  · exact absurd hmod hreg

/-- Settles O16: the two readings agree; an escape alone at the window's end is the one specifier they both leave unread. -/
theorem resolveIsTheDecodedForm : Obligations.ResolveIsTheDecodedForm := by
  refine ⟨fun s i rest hwin hdecode => ?_, fun s e hwin hdecode => ?_⟩ <;>
    by_cases hlone : s.addressSize32 = true ∧ LoneEscape s
  · obtain ⟨j, hj, hexec⟩ := exec_resolve_of_loneEscape hwin hlone.1 hlone.2
    cases hj.symm.trans hdecode
    exact hexec
  · have halike := readAlike_resolve hwin fun hsize h => hlone ⟨hsize, h⟩
    rw [hdecode] at halike
    obtain ⟨loc, reg, n, hres, hexec, -⟩ := halike
    change answerLocation (resolve s) = _
    rw [hres, hexec]
    rfl
  · obtain ⟨j, hj, -⟩ := exec_resolve_of_loneEscape hwin hlone.1 hlone.2
    cases hj.symm.trans hdecode
  · have halike := readAlike_resolve hwin fun hsize h => hlone ⟨hsize, h⟩
    rw [hdecode] at halike
    exact Res.toOutcome_of_refused halike.1

/-- Settles O17: with six bytes left no escape stands alone and no specifier finds the window's end, so both readings
complete. -/
theorem resolveCompletes : Obligations.ResolveCompletes := by
  intro s hwin hfits
  have hlone : ¬ LoneEscape s := by
    rintro ⟨m, hdrop, -⟩
    obtain ⟨-, hlen⟩ := remaining_one_of_drop hwin hdrop
    rw [List.length_nil] at hlen
    omega
  have halike := readAlike_resolve hwin fun _ => hlone
  cases hdecode : decodeSpecifier s.addressSize32 (s.win.drop s.cursor) with
  | ok i rest =>
    rw [hdecode] at halike
    obtain ⟨loc, reg, n, hres, -, hlen, hpos, hmax⟩ := halike
    refine ⟨i, rest, n, loc, reg, rfl, hlen, hpos, hmax, ?_⟩
    change answerLocation (resolve s) = _
    rw [hres]
    rfl
  | reject e =>
    rw [hdecode] at halike
    obtain ⟨-, hshort⟩ := halike
    have hmax : maxSpecifierLen s.addressSize32 ≤ 6 := by cases s.addressSize32 <;> decide
    omega

end Sys2Proof.Machine

/-! PROOFS. What an address does not depend on: the scale of a SIB byte without index (42_resolver32_sib.md R192) and the `reg`
field of the ModR/M byte (30_encoding.md R92). -/

namespace Sys2Proof.Machine

open Sys2Proof.Claims

/-! ### The scale without an index (R192) -/

/-- Two forms of a class whose fields have one length and one answer do the same in every state; they are refused together. -/
theorem exec_eq_of_sibRule {mod : BitVec 2} {dispLen : Nat} {admits : RegIdx → RegIdx → Prop} {dflt : State → RegIdx → Seg}
    {offset : State → RegIdx → RegIdx → BitVec 2 → Nat → Nat} (hrule : sibRule mod dispLen admits dflt offset)
    (hoffset : ∀ s base index scale scale' d, offset s base index scale d = offset s base index scale' d)
    {i j : Instr} {f : SibFields} {scale : BitVec 2} (hi : i.sibFields = some f)
    (hj : j.sibFields = some { f with scale := scale }) (hmod : f.mod = mod) (hadmits : admits f.base f.index)
    (hlen : f.disp.length = dispLen) (s : State) : exec i s = exec j s := by
  obtain ⟨-, hexec⟩ := hrule
  by_cases hfits : s.cursor + (2 + dispLen) ≤ windowLen
  · rw [hexec i f s hi hmod hadmits hfits, hexec j _ s hj hmod hadmits hfits, hoffset]
  · have hlong : windowLen < s.cursor + (2 + f.disp.length) := by rw [hlen]; exact Nat.not_le.mp hfits
    rw [Nat.add_comm 2] at hlong
    rw [exec_overrun (encode_of_sibFields hi) hlong, exec_overrun (encode_of_sibFields hj) hlong]

/-- Settles O13: in each class the rule for index 4 has an offset without scale (R183, R185, R187, R189). -/
theorem scaleIgnoredWithoutIndex : Obligations.ScaleIgnoredWithoutIndex := by
  intro i j f scale s hi hindex hj
  have hlen := (sibForm_of_sibFields hi).disp_length
  rcases mod_cases f.mod with hmod | hmod | hmod | hmod <;> rw [hmod] at hlen
  · by_cases hbase : f.base = 5
    · exact exec_eq_of_sibRule sibMod0WithoutBase.1 (fun _ _ _ _ _ _ => rfl) hi hj hmod ⟨hbase, hindex⟩
        (hlen.trans (if_pos hbase)) s
    · exact exec_eq_of_sibRule sibMod0WithBase.1 (fun _ _ _ _ _ _ => rfl) hi hj hmod ⟨hbase, hindex⟩
        (hlen.trans (if_neg hbase)) s
  · exact exec_eq_of_sibRule sibMod1.1 (fun _ _ _ _ _ _ => rfl) hi hj hmod hindex hlen s
  · exact exec_eq_of_sibRule sibMod2.1 (fun _ _ _ _ _ _ => rfl) hi hj hmod hindex hlen s
  · have hrange : f.mod ≠ 3 := by cases sibForm_of_sibFields hi <;> simp
    exact absurd hmod hrange

/-! ### A byte before the cursor (R39) -/

/-- Byte `c` of the window replaced. -/
def State.setByte (c : Nat) (b : Byte) (s : State) : State := { s with win := s.win.set c b }

/-- From a cursor past byte `c` the operation does the same whatever byte `c` is, and the cursor stays past it. -/
def IgnoresByte {α : Type} (c : Nat) (b : Byte) (f : State → Res α) : Prop :=
  ∀ s, c < s.cursor → f (s.setByte c b) = (f s).mapState (.setByte c b) ∧ (f s).Ends (c < ·.cursor) fun _ => True

theorem ignoresByte_ok {α : Type} (c : Nat) (b : Byte) {f : State → α} (hf : ∀ s, f (s.setByte c b) = f s) :
    IgnoresByte c b fun s => .ok (f s) s :=
  fun s hs => ⟨congrArg (Res.ok · _) (hf s), hs⟩

theorem IgnoresByte.bind {α β : Type} {c : Nat} {b : Byte} {f : State → Res α} {k : α → State → Res β}
    (hf : IgnoresByte c b f) (hk : ∀ a, IgnoresByte c b (k a)) : IgnoresByte c b fun s => (f s).bind k := by
  intro s hs
  obtain ⟨hsame, hends⟩ := hf s hs
  dsimp only
  rw [hsame]
  cases hres : f s with
  | ok a t => exact hk a t (hends.of_eq_ok hres)
  | pageFault | fault | refused => exact ⟨rfl, trivial⟩

theorem IgnoresByte.ite {α : Type} {c : Nat} {b : Byte} {p : Prop} [Decidable p] {f g : State → Res α}
    (hf : IgnoresByte c b f) (hg : IgnoresByte c b g) : IgnoresByte c b fun s => if p then f s else g s := by
  by_cases h : p
  · simpa only [h, if_true] using hf
  · simpa only [h, if_false] using hg

section

variable (c : Nat) (b : Byte)

theorem fetch8_ignoresByte : IgnoresByte c b fetch8 := by
  intro s hs
  have hbyte : (s.win.set c b)[s.cursor]? = s.win[s.cursor]? := List.getElem?_set_ne hs.ne
  unfold fetch8
  rw [State.setByte, hbyte]
  cases s.win[s.cursor]? with
  | none => exact ⟨rfl, trivial⟩
  | some d => exact ⟨rfl, Nat.lt_succ_of_lt hs⟩

theorem fetch16_ignoresByte : IgnoresByte c b fetch16 :=
  (fetch8_ignoresByte c b).bind fun _ => (fetch8_ignoresByte c b).bind fun _ => ignoresByte_ok c b fun _ => rfl

theorem fetch32_ignoresByte : IgnoresByte c b fetch32 :=
  (fetch16_ignoresByte c b).bind fun _ => (fetch16_ignoresByte c b).bind fun _ => ignoresByte_ok c b fun _ => rfl

theorem addDisp16_ignoresByte (mod : BitVec 2) (sum : BitVec 16) : IgnoresByte c b (addDisp16 mod sum) :=
  .ite ((fetch8_ignoresByte c b).bind fun _ => ignoresByte_ok c b fun _ => rfl)
    (.ite ((fetch16_ignoresByte c b).bind fun _ => ignoresByte_ok c b fun _ => rfl) (ignoresByte_ok c b fun _ => rfl))

theorem addDisp32_ignoresByte (mod : BitVec 2) (sum : Word) : IgnoresByte c b (addDisp32 mod sum) :=
  .ite ((fetch8_ignoresByte c b).bind fun _ => ignoresByte_ok c b fun _ => rfl)
    (.ite ((fetch32_ignoresByte c b).bind fun _ => ignoresByte_ok c b fun _ => rfl) (ignoresByte_ok c b fun _ => rfl))

theorem resolveSib_ignoresByte (mod : BitVec 2) : IgnoresByte c b (resolveSib mod) :=
  (fetch8_ignoresByte c b).bind fun sib s hs =>
    (IgnoresByte.ite (p := baseOf sib = 5 ∧ mod = 0)
      ((fetch32_ignoresByte c b).bind fun _ => ignoresByte_ok c b fun _ => rfl)
      (ignoresByte_ok c b (f := fun s => (sibTerms sib s, sibBaseSeg (baseOf sib) s)) fun _ => rfl)) s hs

end

/-! ### The reg field (R92) -/

/-- The same answer with another `reg` field. -/
def Res.withReg (reg : RegIdx) : Res (Location × RegIdx) → Res (Location × RegIdx)
  | .ok (loc, _) s => .ok (loc, reg) s
  | .pageFault x kind s => .pageFault x kind s
  | .fault f => .fault f
  | .refused r => .refused r

/-- From a cursor past byte `c`, `g` with byte `c` replaced by `b` does what `f` does, but that its answer has field `reg`. -/
def DiffersInReg (c : Nat) (b : Byte) (reg : RegIdx) (f g : State → Res (Location × RegIdx)) : Prop :=
  ∀ s, c < s.cursor → g (s.setByte c b) = ((f s).withReg reg).mapState (.setByte c b)

theorem DiffersInReg.bind {α : Type} {c : Nat} {b : Byte} {reg : RegIdx} {f : State → Res α}
    {k k' : α → State → Res (Location × RegIdx)} (hf : IgnoresByte c b f) (hk : ∀ a, DiffersInReg c b reg (k a) (k' a)) :
    DiffersInReg c b reg (fun s => (f s).bind k) fun s => (f s).bind k' := by
  intro s hs
  obtain ⟨hsame, hends⟩ := hf s hs
  dsimp only
  rw [hsame]
  cases hres : f s with
  | ok a t => exact hk a t (hends.of_eq_ok hres)
  | pageFault | fault | refused => rfl

theorem DiffersInReg.ite {c : Nat} {b : Byte} {reg : RegIdx} {p : Prop} [Decidable p]
    {f f' g g' : State → Res (Location × RegIdx)} (hf : DiffersInReg c b reg f f') (hg : DiffersInReg c b reg g g') :
    DiffersInReg c b reg (fun s => if p then f s else g s) fun s => if p then f' s else g' s := by
  by_cases h : p
  · simpa only [h, if_true] using hf
  · simpa only [h, if_false] using hg

theorem resolveEscape_differsInReg (c : Nat) (b : Byte) (mod : BitVec 2) (reg other : RegIdx) :
    DiffersInReg c b other (resolveEscape mod reg) (resolveEscape mod other) :=
  .bind (resolveSib_ignoresByte c b mod) fun _ => .bind (addDisp32_ignoresByte c b _ _) fun _ _ _ => rfl

/-- A ModR/M byte at the cursor, another with the same `mod` and `rm` in its place, and what follows. -/
theorem bind_fetch8_setByte {s : State} {m m' : Byte} {reg : RegIdx} {k : Byte → State → Res (Location × RegIdx)}
    (hm : s.win[s.cursor]? = some m) (hk : DiffersInReg s.cursor m' reg (k m) (k m')) :
    (fetch8 (s.setByte s.cursor m')).bind k = (((fetch8 s).bind k).withReg reg).mapState (.setByte s.cursor m') := by
  have hm' : (s.setByte s.cursor m').win[(s.setByte s.cursor m').cursor]? = some m' :=
    List.getElem?_set_self (List.getElem?_eq_some_iff.mp hm).1
  rw [fetch8, fetch8, hm, hm']
  exact hk (s.setCursor (s.cursor + 1)) (Nat.lt_succ_self _)

/-- `Resolve` under another ModR/M byte with the same `mod` and `rm` answers the same location, with the other `reg`. -/
theorem resolve_setByte {s : State} {m m' : Byte} (hm : s.win[s.cursor]? = some m) (hmod : modOf m' = modOf m)
    (hrm : rmOf m' = rmOf m) :
    resolve (s.setByte s.cursor m') = ((resolve s).withReg (regOf m')).mapState (.setByte s.cursor m') := by
  have hsize : (s.setByte s.cursor m').addressSize32 = s.addressSize32 := rfl
  cases h32 : s.addressSize32 with
  | true =>
    rw [resolve_of_addressSize32 h32, resolve_of_addressSize32 (hsize.trans h32)]
    refine bind_fetch8_setByte hm ?_
    simp only [hmod, hrm]
    refine .ite (fun _ _ => rfl) (.ite (resolveEscape_differsInReg _ _ _ _ _)
      (.ite (.bind (fetch32_ignoresByte _ _) fun _ _ _ => rfl) fun s hs => ?_))
    exact DiffersInReg.bind (addDisp32_ignoresByte _ _ _ _) (fun _ _ _ => rfl) s hs
  | false =>
    rw [resolve_of_addressSize16 h32, resolve_of_addressSize16 (hsize.trans h32)]
    refine bind_fetch8_setByte hm ?_
    simp only [hmod, hrm]
    refine .ite (fun _ _ => rfl) (.ite (.bind (fetch16_ignoresByte _ _) fun _ _ _ => rfl) fun s hs => ?_)
    exact DiffersInReg.bind (addDisp16_ignoresByte _ _ _ _) (fun _ _ _ => rfl) s hs

/-- Settles O15: another `reg` field in the byte is another one in the answer, and nothing more; the field answered is the byte's,
as is seen by putting the byte in its own place. -/
theorem regFieldLeavesTheAddress : Obligations.RegFieldLeavesTheAddress := by
  intro s t m loc reg other hm hnext hout
  obtain ⟨loc', reg', n, hres, rfl⟩ := resolve_onlyConsumes.answerLocation_next hnext
  cases hout
  have hself : s.setByte s.cursor m = s := by
    obtain ⟨hlt, rfl⟩ := List.getElem?_eq_some_iff.mp hm
    rw [State.setByte, List.set_getElem_self]
  have hreg : reg = regOf m := by
    have hsame := resolve_setByte hm rfl rfl
    rw [hself, hres] at hsame
    injection hsame with hanswer
    exact congrArg Prod.snd hanswer
  refine ⟨hreg, ?_⟩
  obtain ⟨hmod, hother, hrm⟩ := modrmByte_fields (modOf m) other (rmOf m)
  change answerLocation (resolve (s.setByte s.cursor (modrmByte (modOf m) other (rmOf m)))) = _
  rw [resolve_setByte hm hmod hrm, hres, hother]
  rfl

end Sys2Proof.Machine

/-! PROOFS. The access kind of `Translate` (44_translate.md R226): the same answer under another kind, which only a PageFault's
payload shows. -/

namespace Sys2Proof.Machine

/-! ### Operations that carry the kind along -/

/-- The same answer with arguments `a` presented, a PageFault with kind `kind`. -/
def Res.withKind {α : Type} (kind : AccessKind) (a : PortArguments) : Res α → Res α
  | .ok x s => .ok x (s.setArgs a)
  | .pageFault x _ s => .pageFault x kind (s.setArgs a)
  | .fault f => .fault f
  | .refused r => .refused r

/-- With arguments `a` presented, `g` does what `f` does, but that its PageFault has kind `kind`. -/
def DiffersInKind {α : Type} (kind : AccessKind) (a : PortArguments) (f g : State → Res α) : Prop :=
  ∀ s, g (s.setArgs a) = (f s).withKind kind a

theorem DiffersInKind.bind {α β : Type} {kind : AccessKind} {a : PortArguments} {f g : State → Res α}
    {k l : α → State → Res β} (hf : DiffersInKind kind a f g) (hk : ∀ x, DiffersInKind kind a (k x) (l x)) :
    DiffersInKind kind a (fun s => (f s).bind k) fun s => (g s).bind l := by
  intro s
  dsimp only
  rw [hf s]
  cases f s with
  | ok x t => exact hk x t
  | pageFault | fault | refused => rfl

theorem DiffersInKind.ite {α : Type} {kind : AccessKind} {a : PortArguments} {p : Prop} [Decidable p]
    {f f' g g' : State → Res α} (hf : DiffersInKind kind a f f') (hg : DiffersInKind kind a g g') :
    DiffersInKind kind a (fun s => if p then f s else g s) fun s => if p then f' s else g' s := by
  by_cases h : p
  · simpa only [h, if_true] using hf
  · simpa only [h, if_false] using hg

/-! ### Translate -/

section

variable (kind kind' : AccessKind) (a : PortArguments)

theorem readEntry_differsInKind (addr : Word) : DiffersInKind kind a (readEntry addr) (readEntry addr) := by
  intro s
  by_cases hfits : addr.toNat + 4 ≤ s.cfg.physSize
  · rw [readEntry_eq hfits, readEntry_eq (s := s.setArgs a) hfits]
    rfl
  · rw [readEntry_refused (Nat.not_le.mp hfits), readEntry_refused (s := s.setArgs a) (Nat.not_le.mp hfits)]
    rfl

theorem walk_differsInKind (l : Word) : DiffersInKind kind' a (walk l kind) (walk l kind') := by
  intro s
  refine DiffersInKind.bind (readEntry_differsInKind kind' a _) (fun pde => ?_) s.countWalk
  refine .ite (.bind (readEntry_differsInKind kind' a _) fun pte => ?_) fun _ => rfl
  exact .ite (fun _ => rfl) fun _ => rfl

theorem translate_differsInKind (l : Word) : DiffersInKind kind' a (translate l kind) (translate l kind') := by
  intro s
  by_cases hunpaged : s.pdBase = 0
  · rw [translate, translate, if_pos hunpaged, if_pos (show (s.setArgs a).pdBase = 0 from hunpaged)]
    rfl
  · cases hfind : Tcache.find? s.tcache (pageNumber l) with
    | some base =>
      rw [translate_of_hit hunpaged hfind, translate_of_hit (s := s.setArgs a) hunpaged hfind]
      rfl
    | none =>
      rw [translate_of_miss hunpaged hfind, translate_of_miss (s := s.setArgs a) hunpaged hfind]
      exact walk_differsInKind kind kind' a l s

end

/-- Settles O27: `Translate` completes alike under both kinds, or raises its PageFault with the one presented. -/
theorem accessKindOnlyInPayload : Obligations.AccessKindOnlyInPayload := by
  intro s t kind hnext
  have hsame := translate_differsInKind s.args.kind kind { s.args with kind := kind } s.args.linear s
  obtain ⟨p, u, hu, rfl⟩ | ⟨x, k, u, hu, rfl⟩ := Res.toOutcome_eq_next (show execTranslate s = .next t from hnext)
  · refine .inl ⟨p, rfl, ?_⟩
    change (translate s.args.linear kind (s.setArgs { s.args with kind := kind })).toOutcome _ = _
    rw [hsame, hu]
    rfl
  · obtain ⟨rfl, rfl, -⟩ := translate_pageFault hu
    refine .inr ⟨rfl, ?_⟩
    change (translate s.args.linear kind (s.setArgs { s.args with kind := kind })).toOutcome _ = _
    rw [hsame, hu]
    rfl

end Sys2Proof.Machine

/-! PROOFS. A dispatch cycle that completes (45_port_ops.md R259 to R265): all its phases one after another. -/

namespace Sys2Proof.Machine

open Sys2Proof.Claims

/-- The statements say "not a pure output" of the values handed over as well (R262). -/
theorem handedValues_eq (d : Descriptor) (loc : Option (Location × RegIdx)) (imm : List Byte)
    (implicit : List (Option Nat)) (rm : Option Nat) (s : State) :
    handedValues d (loc, immediateValues d.immediates imm) (implicit, rm) s = valuesFrom d loc implicit rm imm s := by
  have hfixed : loadFixed s = fun o => if o.dir = .output then none else some (readReg o.width o.index s) :=
    funext fun o => ite_reads o.dir _ _
  have hreg : loadRegField d.specifier loc s = (valuesFrom d loc implicit rm imm s).reg := by
    unfold loadRegField valuesFrom
    cases d.specifier with
    | full w dir operand =>
      cases loc with
      | none => rfl
      | some found => exact ite_reads dir _ _
    | none | memoryOffset | onlyExtraDigit => rfl
  rw [handedValues, hfixed, hreg]
  rfl

theorem storeRm_of_operandStores {rm : Option RmOperand} {loc : Option (Location × RegIdx)} {v : Nat} {s t : State}
    (h : operandStores rm loc v s t) : storeRm rm loc v s = .ok () t := by
  cases rm with
  | none => exact congrArg (Res.ok ()) (Eq.symm h)
  | some operand =>
    cases operand with
    | effectiveAddress | farPointer => exact congrArg (Res.ok ()) (Eq.symm h)
    | location kind w dir =>
      cases loc with
      | none => exact congrArg (Res.ok ()) (Eq.symm h)
      | some found => exact storeOperand_of_stores h

/-- The write-backs of the statements are the protocol's (R262, log 23). -/
theorem storeOperands_of_stores {d : Descriptor} {h : HandlerAnswer} {loc : Option (Location × RegIdx)} {s y x : State}
    (himplicit : implicitStores d.implicit h.implicit (registersWrittenBack d h loc s) y)
    (hrm : operandStores (rmOperand d.specifier) loc h.rm y x) : storeOperands d h loc s = .ok () x := by
  rw [storeOperands, storeRegisters_eq, storeImplicits_of_implicitStores himplicit, Res.bind_ok,
    storeRm_of_operandStores hrm]

theorem storeOperands_storeFrame {d : Descriptor} {h : HandlerAnswer} {loc : Option (Location × RegIdx)} {s t : State}
    (hstored : storeOperands d h loc s = .ok () t) : StoreFrame s t := by
  obtain ⟨_, u, himplicit, hrm⟩ := Res.bind_eq_ok hstored
  obtain ⟨g, hg⟩ := storeRegisters_gpr d h loc s
  have hregs : StoreFrame s (storeRegisters d h loc s) := hg ▸ .of_gpr s g
  exact (hregs.trans ((storeImplicits_frame _ _ _).1 himplicit)).trans ((storeRm_frame _ _ _ _).1 hrm)

/-- Settles O46: the phases up to the handler by `step_of_operandsRead`, then the write-backs, which leave IP for the retirement. -/
theorem operandReadHandlerWriteBack : Obligations.OperandReadHandlerWriteBack := by
  intro s v y x d h rest loc imm implicit rm hread hbases himplicit hrm
  have hstored := storeOperands_of_stores himplicit hrm
  have hip : x.ip = s.ip :=
    (operandsRead_sameContext_of_storeFrame hread hbases (storeOperands_storeFrame hstored)).ip
  rw [step_of_operandsRead hread hbases, hstored, Res.bind_ok, Res.toOutcome_ok, handedValues_eq, retired_eq hip]

end Sys2Proof.Machine
